-- ==== Sys2Proof/Word.lean ====
section
/-! DEFINITION. The word types of the FSCV core (spec/00_scope.md R10, R14): the input symbol and every field of a
frame is a byte; `duty_ticks` and the repeat count are 16 bits wide at the PWM interface. -/

namespace Sys2Proof

/-- One byte, an unsigned integer 0..255 (R14). -/
abbrev Byte := BitVec 8

/-- A `u16` of the PWM interface (R10). -/
abbrev U16 := BitVec 16

end Sys2Proof
end

