-- ==== Sys2Proof/Syntax.lean ====
section
/-! DEFINITION. What the core consumes and what it hands out: the 6-byte command frame, the commands of the opcode
table (spec/opcode_table.json, spec/30_encoding.md R74), and the directives of the Playback Scheduler. -/

namespace Sys2Proof

/-- The CommandFrame record: the six bytes of a candidate under the field names of spec/30_encoding.md R71. -/
structure CommandFrame where
  sync : Byte
  command : Byte
  intensity : Byte
  durationCode : Byte
  checksum : Byte
  tail : Byte
  deriving DecidableEq, Repr

/-- The commands, one constructor per row of the opcode table. Every frame carries `intensity` and `duration_code`,
also where the command ignores them (spec/30_encoding.md R76): they take part in the checksum. -/
inductive Instr where
  /-- `STOP i, d`: command byte 0x00 (spec/42_playback_scheduler.md R121). -/
  | stop (intensity durationCode : Byte)
  /-- `PLAY i, d`: command byte 0x01 (R122). -/
  | play (intensity durationCode : Byte)
  /-- `CMD c, i, d` with c in 0x02..0xFF (R130). -/
  | unknown (command intensity durationCode : Byte)
  deriving DecidableEq, Repr

/-- The mode of a `Start` directive: `Loop | FixedCycles(count : u16)` (spec/10_state.md R32). -/
inductive PlayMode where
  | loop
  | fixedCycles (count : U16)
  deriving DecidableEq, Repr

/-- A PlaybackDirective, in the shape of `pwm_start` and `pwm_stop` (spec/60_exceptions.md R165). -/
inductive PlaybackDirective where
  | start (dutyTicks : U16) (mode : PlayMode)
  | stop
  deriving DecidableEq, Repr

end Sys2Proof
end

