-- ==== Sys2Proof/Config.lean ====
section
/-! DEFINITION. What an implementation fixes (spec/00_scope.md R9), the conceptual state of the PWM driver
(spec/60_exceptions.md R166), and the one free value of the model. -/

namespace Sys2Proof

/-- The parameters of an instance, in the ranges of R9; a configuration out of range cannot be built. They are fixed
at instantiation and no command writes them (spec/10_state.md R27). -/
structure Config where
  /-- `PWM_PERIOD_TICKS`, written `P`: the timer top value. -/
  pwmPeriodTicks : Nat
  /-- `MAX_REPEAT`, written `M`: the largest repeat count of the PWM driver. -/
  maxRepeat : Nat
  period_range : 1 ≤ pwmPeriodTicks ∧ pwmPeriodTicks ≤ 65535
  repeat_range : 1 ≤ maxRepeat ∧ maxRepeat ≤ 65535
  deriving DecidableEq, Repr

/-- The configuration with the given parameters, where both are in range. -/
def Config.ofNats (p m : Nat) : Option Config :=
  if hp : 1 ≤ p ∧ p ≤ 65535 then
    if hm : 1 ≤ m ∧ m ≤ 65535 then some ⟨p, m, hp, hm⟩ else none
  else none

/-- The reference value of P and the default of M (R9). DESIGN CHOICE (unsafe): that `State.reset` is the machine
instantiated so; notes/assumptions/2.md. -/
def Config.reference : Config := ⟨10000, 65535, by decide, by decide⟩

/-- The conceptual state of the PWM driver: `Idle`, or `Running` with the arguments of the most recent accepted
`Start` (spec/60_exceptions.md R166). It belongs to the environment; the core never reads it (R169). -/
inductive PwmDriver where
  | idle
  | running (dutyTicks : U16) (mode : PlayMode)
  deriving DecidableEq, Repr, Inhabited

/-- The n-th draw of a driver state the spec leaves open: after a rejected directive (spec/60_exceptions.md R169) and
across a hardware `rst` (spec/70_reset_and_hazards.md R181). DESIGN CHOICE (safe): a free value, nothing constrains it;
notes/assumptions/6.md. -/
opaque Config.freeDriver : Nat → PwmDriver

end Sys2Proof
end

