-- ==== Sys2Proof/WellFormed.lean ====
section
/-! DEFINITION. Which terms of `Instr` the encoding admits: the opcode map of spec/30_encoding.md R74. -/

namespace Sys2Proof

/-- The command byte of `UNKNOWN` is one of 0x02..0xFF (R74): 0x00 and 0x01 are `STOP` and `PLAY`. -/
def Instr.wf : Instr → Bool
  | .stop _ _ => true
  | .play _ _ => true
  | .unknown command _ _ => decide (2 ≤ command.toNat)

end Sys2Proof
end

