-- ==== Sys2Proof/Decode.lean ====
section
/-! DEFINITION. The command frame's encoding (spec/30_encoding.md), the checksum validator
(spec/41_checksum_validator.md), the decoder from bytes to `Instr`, and the encoder. -/

namespace Sys2Proof

/-! ## Constants of the frame (spec/00_scope.md R8) -/

/-- `SYNC`, the frame-start marker at offset 0. -/
def syncByte : Byte := 0x55

/-- `TAIL`, the frame-end marker at offset 5. -/
def tailByte : Byte := 0xAA

/-- `CMD_STOP`. -/
def cmdStop : Byte := 0x00

/-- `CMD_PLAY`. -/
def cmdPlay : Byte := 0x01

/-! ## Checksum validator -/

/-- The sum of the three summed bytes over naturals, 0..765 (spec/41_checksum_validator.md R115). -/
def frameSum (command intensity durationCode : Byte) : Nat :=
  command.toNat + intensity.toNat + durationCode.toNat

/-- The checksum byte: the low 8 bits of the sum (spec/30_encoding.md R73, R115). -/
def checksumOf (command intensity durationCode : Byte) : Byte :=
  BitVec.ofNat 8 (frameSum command intensity durationCode % 256)

/-- The three outcomes of `validate` (spec/41_checksum_validator.md R110). -/
inductive Verdict where
  | badTail
  | checksumMismatch
  | valid
  deriving DecidableEq, Repr

/-- `validate(f)`: the tail is tested first and the checksum second; `sync` is not tested (R110, R111). -/
def validate (f : CommandFrame) : Verdict :=
  if f.tail ≠ tailByte then .badTail
  else if f.checksum ≠ checksumOf f.command f.intensity f.durationCode then .checksumMismatch
  else .valid

/-! ## Decoder -/

/-- Why a window of bytes is not an instruction (spec/30_encoding.md R77). -/
inductive DecodeError where
  /-- Fewer than six bytes. -/
  | truncated (available : Nat)
  /-- Offset 0 is not 0x55: at `cursor = 0` such a byte is dropped (R91), no frame starts here. -/
  | notSync (first : Byte)
  /-- `BAD_TAIL` (R112). -/
  | badTail (f : CommandFrame)
  /-- `CHECKSUM_MISMATCH` (R113). -/
  | checksumMismatch (f : CommandFrame)
  deriving DecidableEq, Repr

/-- The opcode map of spec/30_encoding.md R74: the command byte alone selects the operation. -/
def instrOf (f : CommandFrame) : Instr :=
  if f.command = cmdStop then .stop f.intensity f.durationCode
  else if f.command = cmdPlay then .play f.intensity f.durationCode
  else .unknown f.command f.intensity f.durationCode

/-- A frame reaches the opcode map only if it is valid (R74). -/
def decodeFrame (f : CommandFrame) : Except DecodeError Instr :=
  match validate f with
  | .badTail => .error (.badTail f)
  | .checksumMismatch => .error (.checksumMismatch f)
  | .valid => .ok (instrOf f)

/-- Decode one frame from the front of a byte list, the byte that arrives first at its head; total on any bytes. The
fixed bits of a row of the opcode table include `sync` (R75), so offset 0 is tested here. -/
def decode : List Byte → Except DecodeError (Instr × List Byte)
  | b0 :: b1 :: b2 :: b3 :: b4 :: b5 :: rest =>
    if b0 ≠ syncByte then .error (.notSync b0)
    else
      match decodeFrame ⟨b0, b1, b2, b3, b4, b5⟩ with
      | .error e => .error e
      | .ok i => .ok (i, rest)
  | bs => .error (.truncated bs.length)

/-! ## Encoder -/

/-- `frame(c, i, d)`, the well-formed frame of spec/30_encoding.md R73. -/
def mkFrame (command intensity durationCode : Byte) : CommandFrame :=
  ⟨syncByte, command, intensity, durationCode, checksumOf command intensity durationCode, tailByte⟩

/-- The six bytes of a frame in arrival order (spec/20_memory.md R51, R54). -/
def CommandFrame.bytes (f : CommandFrame) : List Byte :=
  [f.sync, f.command, f.intensity, f.durationCode, f.checksum, f.tail]

/-- The frame that carries an instruction. -/
def Instr.frame : Instr → CommandFrame
  | .stop i d => mkFrame cmdStop i d
  | .play i d => mkFrame cmdPlay i d
  | .unknown c i d => mkFrame c i d

/-- The six bytes of an instruction in arrival order. -/
def encode (i : Instr) : List Byte := i.frame.bytes

/-! ## The frame as a 48-bit number (spec/30_encoding.md R72) -/

/-- `F = sync ++ command ++ intensity ++ duration_code ++ checksum ++ tail`: the byte that arrives first is the most
significant. -/
def CommandFrame.word (f : CommandFrame) : BitVec 48 :=
  f.sync ++ f.command ++ f.intensity ++ f.durationCode ++ f.checksum ++ f.tail

/-- The byte of a 48-bit word at a frame offset 0..5, read out of `F[47 - 8k : 40 - 8k]`. -/
def wordByte (w offset : Nat) : Byte := BitVec.ofNat 8 (w / 2 ^ (8 * (5 - offset)))

/-- The frame a 48-bit word stands for. -/
def frameOfWord (w : Nat) : CommandFrame :=
  ⟨wordByte w 0, wordByte w 1, wordByte w 2, wordByte w 3, wordByte w 4, wordByte w 5⟩

/-- The instruction of the opcode-table word `w`, bits above `nbits` taken as 0. The table numbers a frame as one
48-bit word, bit 0 the least significant bit of `tail` (R72); notes/assumptions/11.md. -/
def decodeTableWord (nbits w : Nat) : Option Instr :=
  match decode (frameOfWord (w % 2 ^ nbits)).bytes with
  | .ok (i, _) => some i
  | .error _ => none

/-! ## The written form of a stream (spec/30_encoding.md R79, R80) -/

/-- One item of a written stream. -/
inductive StreamItem where
  /-- `STOP`: the canonical stop frame. -/
  | stop
  /-- `STOP i, d`. -/
  | stopWith (intensity durationCode : Byte)
  /-- `PLAY i, d`. -/
  | play (intensity durationCode : Byte)
  /-- `CMD c, i, d`. -/
  | cmd (command intensity durationCode : Byte)
  /-- `.frame b0, ..., b5`: a raw window. -/
  | frame (b0 b1 b2 b3 b4 b5 : Byte)
  /-- `.byte b`. -/
  | byte (b : Byte)
  /-- `PLAYF i`, which expands to `PLAY i, 0`. -/
  | playf (intensity : Byte)
  /-- `NOISE b1, ..., bn`, none of them 0x55. -/
  | noise (bs : List Byte)
  deriving DecidableEq, Repr

/-- `NOISE` requires that no byte of it is 0x55 (R80); every other item is well-formed. -/
def StreamItem.wf : StreamItem → Bool
  | .noise bs => bs.all (fun b => decide (b ≠ syncByte))
  | .stop | .stopWith .. | .play .. | .cmd .. | .frame .. | .byte _ | .playf _ => true

/-- The bytes an item stands for. -/
def StreamItem.bytes : StreamItem → List Byte
  | .stop => (mkFrame cmdStop 0 0).bytes
  | .stopWith i d => (mkFrame cmdStop i d).bytes
  | .play i d => (mkFrame cmdPlay i d).bytes
  | .cmd c i d => (mkFrame c i d).bytes
  | .frame b0 b1 b2 b3 b4 b5 => [b0, b1, b2, b3, b4, b5]
  | .byte b => [b]
  | .playf i => (mkFrame cmdPlay i 0).bytes
  | .noise bs => bs

/-- The encoding of a written stream is the concatenation of its items' bytes, in order (R79). -/
def streamBytes (items : List StreamItem) : List Byte := items.flatMap StreamItem.bytes

end Sys2Proof
end

