-- ==== Sys2Proof/Machine/Operands.lean ====
section
/-! DEFINITION. The operands of a command (spec/30_encoding.md R76) and the scheduler's arithmetic
(spec/42_playback_scheduler.md R123 to R128), over unbounded naturals as R134 asks. -/

namespace Sys2Proof.Machine

/-- `DUTY_MAX` (spec/00_scope.md R8). -/
def dutyMax : Nat := 100

/-- `DUR_UNIT_MS` (R8). -/
def durUnitMs : Nat := 50

/-- `duty = min(intensity, 100)`, in percent (R123). -/
def dutyOf (intensity : Byte) : Nat := min intensity.toNat dutyMax

/-- `dur`: 0 if `duration_code` is 0, else `duration_code * 50`, in milliseconds (R123). -/
def durationOf (durationCode : Byte) : Nat :=
  if durationCode = 0 then 0 else durationCode.toNat * durUnitMs

/-- `loop`: `duration_code` 0 is the sentinel for "run until stopped" (R76). -/
def loopOf (durationCode : Byte) : Bool := decide (durationCode = 0)

/-- `duty_ticks = floor(P * duty / 100)`, the product taken exactly (R125). -/
def dutyTicks (cfg : Config) (duty : Nat) : Nat := cfg.pwmPeriodTicks * duty / 100

/-- `period_us = P + 1` (R127): one tick is 1 microsecond. -/
def periodUs (cfg : Config) : Nat := cfg.pwmPeriodTicks + 1

/-- `total_us = duration_ms * 1000` (R127). -/
def totalUs (durMs : Nat) : Nat := durMs * 1000

/-- `ceil(a / b) = (a + b - 1) div b` for `b > 0` (spec/00_scope.md R14). -/
def ceilDiv (a b : Nat) : Nat := (a + b - 1) / b

/-- The cycle count before the clamps (R128). -/
def cyclesRaw (cfg : Config) (durMs : Nat) : Nat := ceilDiv (totalUs durMs) (periodUs cfg)

/-- `cycles = max(1, min(cycles_raw, M))` (R128). -/
def cyclesOf (cfg : Config) (durMs : Nat) : Nat := max 1 (min (cyclesRaw cfg durMs) cfg.maxRepeat)

/-- The mode of a `Start` for a stored duration: `Loop` for 0 (R126), else the cycle count (R129). -/
def modeOf (cfg : Config) (durMs : Nat) : PlayMode :=
  if durMs = 0 then .loop else .fixedCycles (BitVec.ofNat 16 (cyclesOf cfg durMs))

/-- The `Start` directive of a PLAY: a function of the frame's operands and the configuration only (R132). -/
def startOf (cfg : Config) (intensity durationCode : Byte) : PlaybackDirective :=
  .start (BitVec.ofNat 16 (dutyTicks cfg (dutyOf intensity))) (modeOf cfg (durationOf durationCode))

end Sys2Proof.Machine
end

