-- ==== Sys2Proof/Machine/State.lean ====
section
/-! DEFINITION. The state of the machine as plain data: the four items of the core (spec/10_state.md R20), its
configuration, the PWM driver it commands, and the ports of the current step. -/

namespace Sys2Proof.Machine

/-- The diagnostics of spec/60_exceptions.md R150, each with the value it records. -/
inductive Diagnostic where
  /-- `BAD_TAIL` (spec/41_checksum_validator.md R112). -/
  | badTail (candidate : CommandFrame)
  /-- `CHECKSUM_MISMATCH` (R113). -/
  | checksumMismatch (candidate : CommandFrame)
  /-- `UNKNOWN_COMMAND` (spec/42_playback_scheduler.md R130). -/
  | unknownCommand (command : Byte)
  /-- `DIRECTIVE_FAILED` (R156). -/
  | directiveFailed (directive : PlaybackDirective)
  deriving DecidableEq, Repr

/-- What the environment presents to one step: `in_valid` / `in_byte` and `pwm_err` (spec/10_state.md R32), and
whether the driver's finite waveform has ended at the boundary before the step (spec/60_exceptions.md R168). -/
structure StepInput where
  inByte : Option Byte
  pwmErr : Bool
  cyclesExhausted : Bool
  deriving DecidableEq, Repr

/-- Nothing is presented: `in_valid` is 0. -/
def StepInput.none : StepInput := ⟨Option.none, false, false⟩

/-- A byte is presented and the PWM driver does what it is told. -/
def StepInput.ofByte (b : Byte) : StepInput := ⟨some b, false, false⟩

/-- The outputs of one step (spec/10_state.md R32). They are values of that step only (R28). -/
structure StepOutput where
  frame : Option CommandFrame
  directive : Option PlaybackDirective
  diagnostic : Option Diagnostic
  echo : Option Byte
  deriving DecidableEq, Repr

/-- Every output event absent. -/
def StepOutput.absent : StepOutput := ⟨none, none, none, none⟩

/-- The state. `buf`, `cursor`, `dutyPercent` and `durationMs` are the four items of the core (R20); every other field
is configuration, environment, or a port. INVENTORY.md lists them with their rules. -/
structure State where
  /-- The parameters of this instance (spec/00_scope.md R9); no step writes them. -/
  cfg : Config
  /-- `buf[0..5]`, the FrameBuffer (R21). -/
  buf : Vector Byte 6
  /-- The write cursor between steps, 0..5 (R22, R23); notes/assumptions/9.md. -/
  cursor : Fin 6
  /-- `duty_percent` of PlaybackState (R24). -/
  dutyPercent : BitVec 8
  /-- `duration_ms` of PlaybackState (R25). -/
  durationMs : BitVec 16
  /-- The PWM driver: environment state (R31). -/
  driver : PwmDriver
  /-- The port `pwm_err` in the current step (R32). -/
  pwmErr : Bool
  /-- The model's own: what the environment presents to the steps to come, the next step first. -/
  inputs : List StepInput
  /-- The output ports of the step just taken (R32). -/
  out : StepOutput
  /-- The model's own: how many free values have been drawn. -/
  freeCount : Nat
  deriving DecidableEq, Repr

/-- `RESET_DUTY` (spec/00_scope.md R8). -/
def resetDuty : BitVec 8 := 50

/-- `RESET_DURATION_MS` (R8). -/
def resetDurationMs : BitVec 16 := 10

/-- The state after reset of an instance with the configuration `cfg` (spec/10_state.md R33). `buf` is zeros: DESIGN
CHOICE (unsafe), notes/assumptions/1.md. The driver is `Idle`: notes/assumptions/3.md. Nothing is presented yet:
notes/assumptions/5.md. -/
def State.resetOf (cfg : Config) : State where
  cfg := cfg
  buf := Vector.replicate 6 0
  cursor := 0
  dutyPercent := resetDuty
  durationMs := resetDurationMs
  driver := .idle
  pwmErr := false
  inputs := []
  out := .absent
  freeCount := 0

/-- The machine right after reset, instantiated with the reference parameters (notes/assumptions/2.md). -/
def State.reset : State := State.resetOf Config.reference

/-- Why a step could fault. The block has no fault: "The step always terminates; it never blocks, faults or refuses a
byte" (spec/40_frame_decoder.md R90), so no constructor stands here; safe. -/
inductive Fault where
  deriving DecidableEq, Repr

/-- Why a step could be refused. -/
inductive Refusal where
  /-- Raised by `exec` for an instruction without a meaning; none is left. Safe: the model stops. -/
  | notModelled (mnemonic : String)
  deriving DecidableEq, Repr

end Sys2Proof.Machine
end

