-- ==== Sys2Proof/Machine/Ops.lean ====
section
/-! DEFINITION. The named operations over the state: the ports of a step, the FrameBuffer, PlaybackState, the one
operation that raises a diagnostic, the one that issues a directive, and the PWM driver's transitions. -/

namespace Sys2Proof.Machine

/-! ## The PWM driver (spec/60_exceptions.md R165 to R169) -/

/-- The driver after it accepts a directive: any state goes to `Running(t, m)` on `Start(t, m)` and to `Idle` on
`Stop` (R167). -/
def driverAccept (d : PlaybackDirective) : PwmDriver :=
  match d with
  | .start t m => .running t m
  | .stop => .idle

/-- The autonomous transition at a step boundary: only `Running(t, FixedCycles(n))` can end by itself (R168). -/
def driverBoundary (exhausted : Bool) (d : PwmDriver) : PwmDriver :=
  match d with
  | .running _ (.fixedCycles _) => if exhausted then .idle else d
  | .running _ .loop => d
  | .idle => d

/-! ## The ports of a step (spec/10_state.md R32) -/

/-- What the environment presents to the next step; with nothing listed, `in_valid` is 0. -/
def State.currentInput (s : State) : StepInput := s.inputs.headD .none

/-- The start of a step: the environment's input is taken, the driver may have ended its waveform at the boundary
(R168), and no output is present yet (R28). -/
def State.beginStep (s : State) : State :=
  { s with
    inputs := s.inputs.tail
    pwmErr := s.currentInput.pwmErr
    driver := driverBoundary s.currentInput.cyclesExhausted s.driver
    out := .absent }

/-- `echo(b)` (spec/20_memory.md R64). -/
def State.echoByte (b : Byte) (s : State) : State :=
  { s with out := { s.out with echo := some b } }

/-- `emit Frame(f)` (spec/41_checksum_validator.md R114). -/
def State.emitFrame (f : CommandFrame) (s : State) : State :=
  { s with out := { s.out with frame := some f } }

/-- `raise <Diagnostic>`: the block's one exception operation. It saves nothing, changes no mode and transfers no
control (spec/60_exceptions.md R158); there is nothing to return from (R159). -/
def State.raiseDiag (d : Diagnostic) (s : State) : State :=
  { s with out := { s.out with diagnostic := some d } }

/-- `issue d`: the directive goes out once, whether or not the driver accepts it (spec/60_exceptions.md R156). With
`pwm_err` the step also raises `DIRECTIVE_FAILED` and the driver's state is a free value (R169); otherwise the driver
takes the transition of R167. -/
def State.issue (d : PlaybackDirective) (s : State) : State :=
  { s with
    out :=
      { s.out with
        directive := some d
        diagnostic := if s.pwmErr then some (.directiveFailed d) else s.out.diagnostic }
    driver := if s.pwmErr then Config.freeDriver s.freeCount else driverAccept d
    freeCount := if s.pwmErr then s.freeCount + 1 else s.freeCount }

/-! ## FrameBuffer and cursor (spec/10_state.md R21, R22) -/

/-- `buf[cursor] <- b; cursor <- cursor + 1`, with the wrap 6 to 0 of the completion step (R22): addition in `Fin 6`
takes 5 to 0. -/
def State.append (b : Byte) (s : State) : State :=
  { s with buf := s.buf.set s.cursor.val b s.cursor.isLt, cursor := s.cursor + 1 }

/-- `f := (buf[0], ..., buf[5])` (spec/40_frame_decoder.md R90). -/
def State.candidate (s : State) : CommandFrame :=
  ⟨s.buf[0], s.buf[1], s.buf[2], s.buf[3], s.buf[4], s.buf[5]⟩

/-! ## PlaybackState (spec/42_playback_scheduler.md R124) -/

/-- `duty_percent <- duty ; duration_ms <- dur`: the only write of PlaybackState. -/
def State.setPlayback (duty durMs : Nat) (s : State) : State :=
  { s with dutyPercent := BitVec.ofNat 8 duty, durationMs := BitVec.ofNat 16 durMs }

/-! ## The environment's side -/

/-- The byte source delivers bytes, one step each, after what it has already presented; a chunk is no more than this
(spec/20_memory.md R60). -/
def State.present (bs : List Byte) (s : State) : State :=
  { s with inputs := s.inputs ++ bs.map StepInput.ofByte }

/-- A hardware rendering's `rst` port (spec/70_reset_and_hazards.md R181): the four state items take their reset
values and no output is present; the driver across it is a free value. The block has no reset step, so no step calls
it; notes/assumptions/12.md. -/
def State.assertRst (s : State) : State :=
  { s with
    buf := (State.resetOf s.cfg).buf
    cursor := (State.resetOf s.cfg).cursor
    dutyPercent := (State.resetOf s.cfg).dutyPercent
    durationMs := (State.resetOf s.cfg).durationMs
    out := .absent
    driver := Config.freeDriver s.freeCount
    freeCount := s.freeCount + 1 }

end Sys2Proof.Machine
end

