-- ==== Sys2Proof/Machine/Scheduler.lean ====
section
/-! DEFINITION. The Playback Scheduler: the meanings of the commands (spec/42_playback_scheduler.md). Each runs inside
the completion step, after the frame was emitted. -/

namespace Sys2Proof.Machine

/-- `STOP` (R121): issue `Stop`; PlaybackState and the operand bytes play no part. -/
def execStop (_intensity _durationCode : Byte) (s : State) : Host.Outcome State Fault Refusal :=
  .next (s.issue .stop)

/-- `PLAY` (R122): store the clamped duty and the duration (R124), then issue `Start` (R126, R129). -/
def execPlay (intensity durationCode : Byte) (s : State) : Host.Outcome State Fault Refusal :=
  .next ((s.setPlayback (dutyOf intensity) (durationOf durationCode)).issue
    (startOf s.cfg intensity durationCode))

/-- `UNKNOWN` (R130): no directive; the diagnostic `UNKNOWN_COMMAND`. -/
def execUnknown (command _intensity _durationCode : Byte) (s : State) :
    Host.Outcome State Fault Refusal :=
  .next (s.raiseDiag (.unknownCommand command))

end Sys2Proof.Machine
end

