-- ==== Sys2Proof/Machine/Dispatch.lean ====
section
/-! DEFINITION. One arm per command (spec/42_playback_scheduler.md R120). -/

namespace Sys2Proof.Machine

def exec (i : Instr) (s : State) : Host.Outcome State Fault Refusal :=
  match i with
  | .stop intensity durationCode => Sys2Proof.Machine.execStop intensity durationCode s
  | .play intensity durationCode => Sys2Proof.Machine.execPlay intensity durationCode s
  | .unknown command intensity durationCode => Sys2Proof.Machine.execUnknown command intensity durationCode s

end Sys2Proof.Machine
end

