-- ==== Sys2Proof/Machine/FrameDecoder.lean ====
section
/-! DEFINITION. The Frame Decoder: the per-byte operation `feed` and its four cases (spec/40_frame_decoder.md). -/

namespace Sys2Proof.Machine

/-- The four cases of a step (spec/40_frame_decoder.md, the table before R90). -/
inductive FeedCase where
  | drop
  | sync
  | append
  | complete
  deriving DecidableEq, Repr

/-- Every pair of a cursor 0..5 and a byte falls in exactly one case. -/
def feedCase (cursor : Fin 6) (b : Byte) : FeedCase :=
  if cursor = 0 then
    if b = syncByte then .sync else .drop
  else if cursor = 5 then .complete
  else .append

/-- `apply(f)` (spec/42_playback_scheduler.md R120): dispatch on the command byte. -/
def applyFrame (f : CommandFrame) (s : State) : Host.Outcome State Fault Refusal :=
  exec (instrOf f) s

/-- The candidate is complete: validate it, then report it or emit and apply it (R94, R112 to R114). -/
def judgeCandidate (f : CommandFrame) (s : State) : Host.Outcome State Fault Refusal :=
  match validate f with
  | .badTail => .next (s.raiseDiag (.badTail f))
  | .checksumMismatch => .next (s.raiseDiag (.checksumMismatch f))
  | .valid => applyFrame f (s.emitFrame f)

/-- `DROP` (R91): no state is written. -/
def feedDrop (s : State) : Host.Outcome State Fault Refusal := .next s

/-- `SYNC` (R92): `buf[0] <- 0x55; cursor <- 1`. -/
def feedSync (b : Byte) (s : State) : Host.Outcome State Fault Refusal := .next (s.append b)

/-- `APPEND` (R93): `buf[k] <- b; cursor <- k + 1`, the byte not examined. -/
def feedAppend (b : Byte) (s : State) : Host.Outcome State Fault Refusal := .next (s.append b)

/-- `COMPLETE` (R94): append, cursor to 0, then the candidate is judged. -/
def feedComplete (b : Byte) (s : State) : Host.Outcome State Fault Refusal :=
  judgeCandidate (s.append b).candidate (s.append b)

/-- `feed(byte)` (R90). -/
def feed (b : Byte) (s : State) : Host.Outcome State Fault Refusal :=
  match feedCase s.cursor b with
  | .drop => feedDrop (s.echoByte b)
  | .sync => feedSync b (s.echoByte b)
  | .append => feedAppend b (s.echoByte b)
  | .complete => feedComplete b (s.echoByte b)

/-- One step with the port `in_byte`: with `in_valid` = 0 the state holds (spec/10_state.md R32). -/
def feedPort (inByte : Option Byte) (s : State) : Host.Outcome State Fault Refusal :=
  match inByte with
  | none => .next s
  | some b => feed b s

/-- The decoder holds the first five bytes of a frame and the byte source presents the sixth, accepted by the driver:
what the very next step needs to run that frame. -/
def State.holdFrame (f : CommandFrame) (s : State) : State :=
  { s with
    buf := #v[f.sync, f.command, f.intensity, f.durationCode, f.checksum, s.buf[5]]
    cursor := 5
    inputs := StepInput.ofByte f.tail :: s.inputs }

end Sys2Proof.Machine
end

