-- ==== Sys2Proof/Machine/Step.lean ====
section
/-! DEFINITION. One step of the machine: one call of `feed` with the byte the environment presents
(spec/00_scope.md R12). -/

namespace Sys2Proof.Machine

/-- One step: the inputs are taken, then the byte, if there is one, is fed. -/
def step (s : State) : Host.Outcome State Fault Refusal :=
  feedPort s.currentInput.inByte s.beginStep

/-- The frame of the table word `w`, its first five bytes in the FrameBuffer and its sixth presented, so that the very
next step completes and runs it; notes/assumptions/5.md. -/
def State.withFetchWord (s : State) (nbits w : Nat) : State :=
  s.holdFrame (frameOfWord (w % 2 ^ nbits))

end Sys2Proof.Machine
end

