-- ==== Sys2Proof/Machine/Ports.lean ====
section
/-! DEFINITION. The output ports of spec/10_state.md R32, as views of the state, with the codes of
spec/60_exceptions.md R150. A port that R32 calls meaningful only in some steps has no value in the others. -/

namespace Sys2Proof.Machine

/-- The code of a diagnostic (R150). -/
def Diagnostic.code : Diagnostic → BitVec 3
  | .badTail _ => 1
  | .checksumMismatch _ => 2
  | .unknownCommand _ => 3
  | .directiveFailed _ => 4

/-- `diag_code[2:0]`; 0 is `NONE`. -/
def portDiagCode (s : State) : BitVec 3 := (s.out.diagnostic.map Diagnostic.code).getD 0

/-- `frame_valid`. -/
def portFrameValid (s : State) : Bool := s.out.frame.isSome

/-- `frame[47:0]`, in the word layout of spec/30_encoding.md R72. -/
def portFrame (s : State) : Option (BitVec 48) := s.out.frame.map CommandFrame.word

/-- `dir_kind[1:0]`: 0 none, 1 Start, 2 Stop. -/
def portDirKind (s : State) : BitVec 2 :=
  match s.out.directive with
  | none => 0
  | some (.start _ _) => 1
  | some .stop => 2

/-- `dir_duty_ticks[15:0]`, meaningful only for Start. -/
def portDirDutyTicks (s : State) : Option U16 :=
  match s.out.directive with
  | some (.start t _) => some t
  | _ => none

/-- `dir_loop`, meaningful only for Start. -/
def portDirLoop (s : State) : Option Bool :=
  match s.out.directive with
  | some (.start _ .loop) => some true
  | some (.start _ (.fixedCycles _)) => some false
  | _ => none

/-- `dir_cycle_count[15:0]`, meaningful only when `dir_loop` = 0. -/
def portDirCycleCount (s : State) : Option U16 :=
  match s.out.directive with
  | some (.start _ (.fixedCycles n)) => some n
  | _ => none

/-- `echo_valid`, `echo_byte[7:0]`. -/
def portEcho (s : State) : Option Byte := s.out.echo

/-- `st_duty_percent[7:0]`, valid at all times. -/
def portStDutyPercent (s : State) : BitVec 8 := s.dutyPercent

/-- `st_duration_ms[15:0]`, valid at all times. -/
def portStDurationMs (s : State) : BitVec 16 := s.durationMs

end Sys2Proof.Machine
end

