-- ==== Sys2Proof/Safety.lean ====
section
/-! DEFINITION. The terms claims are stated in: the invariant of the state, runs and their outputs
(spec/00_scope.md R13), and a second, flat transcription of the whole step from the spec's pseudocode. -/

namespace Sys2Proof.Machine

/-! ## The invariant -/

/-- The values `duration_ms` can hold: the reset value 10, or `50 * k` for k in 0..255 (spec/10_state.md R25). -/
abbrev legalDuration (ms : Nat) : Prop := ms = 10 ∨ (ms % 50 = 0 ∧ ms ≤ 12750)

/-- What holds before and after every step: a candidate in progress begins with 0x55 (spec/10_state.md R23 b), and
PlaybackState holds legal values (R24, R25). That the cursor is in 0..5 (R23 a) is its type. -/
abbrev Inv (s : State) : Prop :=
  (s.cursor ≠ 0 → s.buf[0] = syncByte) ∧ s.dutyPercent.toNat ≤ 100 ∧ legalDuration s.durationMs.toNat

/-! ## Runs and their outputs -/

/-- `n` steps from `s` end in `t`. -/
abbrev Runs (n : Nat) (s t : State) : Prop := Host.Core.run Sys2Proof.core n s = .next t

/-- The outputs of the first `n` steps, in order (R13). -/
def outputsOf : Nat → State → List StepOutput
  | 0, _ => []
  | n + 1, s =>
    match step s with
    | .next t => t.out :: outputsOf n t
    | .fault _ => []
    | .refused _ => []

/-- The environment presents these bytes in the next steps, one a step; what the PWM driver does meanwhile is open. -/
abbrev Offers (bs : List Byte) (s : State) : Prop :=
  (s.inputs.take bs.length).map StepInput.inByte = bs.map some

/-- A step with no frame, no directive and no diagnostic. -/
abbrev StepOutput.Quiet (o : StepOutput) : Prop :=
  o.frame = none ∧ o.directive = none ∧ o.diagnostic = none

/-- No byte of the list is the sync byte: noise for a decoder that is hunting. -/
abbrev Noise (bs : List Byte) : Prop := ∀ b ∈ bs, b ≠ syncByte

/-- The outputs of a stream delivered in chunks: each chunk is presented, then fed to its end (spec/20_memory.md R60). -/
def outputsOfChunks : List (List Byte) → State → List StepOutput
  | [], _ => []
  | c :: cs, s =>
    match Host.Core.run Sys2Proof.core c.length (s.present c) with
    | .next t => outputsOf c.length (s.present c) ++ outputsOfChunks cs t
    | .fault _ => []
    | .refused _ => []

/-! ## The completion step -/

/-- The candidate that the byte `b` completes: the five bytes held and `b`. -/
def heldFrame (b : Byte) (s : State) : CommandFrame :=
  ⟨s.buf[0], s.buf[1], s.buf[2], s.buf[3], s.buf[4], b⟩

/-- The state in which the scheduler runs in the completion step: input taken, sixth byte appended, cursor 0, byte
echoed, frame emitted (spec/20_memory.md R56). -/
def completedState (b : Byte) (s : State) : State :=
  { s with
    inputs := s.inputs.tail
    pwmErr := s.currentInput.pwmErr
    driver := driverBoundary s.currentInput.cyclesExhausted s.driver
    buf := s.buf.set 5 b
    cursor := 0
    out := ⟨some (heldFrame b s), none, none, some b⟩ }

/-- What a step that writes no state of the core leaves: the environment's input is taken and the outputs are `o`. -/
def passedState (o : StepOutput) (s : State) : State :=
  { s with
    inputs := s.inputs.tail
    pwmErr := s.currentInput.pwmErr
    driver := driverBoundary s.currentInput.cyclesExhausted s.driver
    out := o }

/-! ## The whole step, flat, from the pseudocode of R90, R110, R120 and R122 -/

/-- The directive of a PLAY, written out with numbers (spec/42_playback_scheduler.md R122). -/
def pseudoStart (p m intensity durationCode : Nat) : PlaybackDirective :=
  let duty := min intensity 100
  let dur := if durationCode = 0 then 0 else durationCode * 50
  let ticks := p * duty / 100
  if dur = 0 then .start (BitVec.ofNat 16 ticks) .loop
  else
    let periodUs := p + 1
    let totalUs := dur * 1000
    let cycles := (totalUs + periodUs - 1) / periodUs
    .start (BitVec.ofNat 16 ticks) (.fixedCycles (BitVec.ofNat 16 (max 1 (min cycles m))))

/-- The pseudocode of R90 with `validate` (R110) and `apply` (R120) written into it, on numbers and with a cursor that
counts to 6; only `issue` (R156) is shared with the machine. -/
def feedPseudo (b : Byte) (s : State) : State :=
  if s.cursor.val = 0 ∧ b.toNat ≠ 0x55 then
    { s with out := { s.out with echo := some b } }
  else
    let buf := s.buf.set s.cursor.val b s.cursor.isLt
    let cursor := s.cursor.val + 1
    if cursor = 6 then
      let f : CommandFrame := ⟨buf[0], buf[1], buf[2], buf[3], buf[4], buf[5]⟩
      let s := { s with buf := buf, cursor := 0, out := { s.out with echo := some b } }
      if buf[5].toNat ≠ 0xAA then
        { s with out := { s.out with diagnostic := some (.badTail f) } }
      else if buf[4].toNat ≠ (buf[1].toNat + buf[2].toNat + buf[3].toNat) % 256 then
        { s with out := { s.out with diagnostic := some (.checksumMismatch f) } }
      else
        let s := { s with out := { s.out with frame := some f } }
        if buf[1].toNat = 0x00 then s.issue .stop
        else if buf[1].toNat = 0x01 then
          let dur := if buf[3].toNat = 0 then 0 else buf[3].toNat * 50
          { s with
            dutyPercent := BitVec.ofNat 8 (min buf[2].toNat 100)
            durationMs := BitVec.ofNat 16 dur }.issue
              (pseudoStart s.cfg.pwmPeriodTicks s.cfg.maxRepeat buf[2].toNat buf[3].toNat)
        else { s with out := { s.out with diagnostic := some (.unknownCommand buf[1]) } }
    else
      { s with buf := buf, cursor := Fin.ofNat 6 cursor, out := { s.out with echo := some b } }

end Sys2Proof.Machine
end

