-- ==== Sys2Proof/Certificates/Slice0/Obligations.lean ====
section
/-! DEFINITION. The statements for the provers. Each docstring says which sentence of the spec it formalises, and
where a clause rests on a choice of the spec or of the model instead. -/

open Sys2Proof Sys2Proof.Machine

/-! ## Encoding -/

/-- Decode and encode agree: the frame of every command with every operand decodes to it (spec/30_encoding.md R73,
R74, the row order of R75). -/
def Obligations.DecodeOfEncode : Prop :=
  ∀ (i : Instr) (rest : List Byte), i.wf = true → decode (encode i ++ rest) = .ok (i, rest)

/-- Every window the decoder accepts is the one well-formed frame of the command it answers: "For every (c, i, d)
exactly one frame is well-formed" (spec/30_encoding.md R73). -/
def Obligations.EncodeOfDecode : Prop :=
  ∀ (bs : List Byte) (i : Instr) (rest : List Byte),
    decode bs = .ok (i, rest) → i.wf = true ∧ bs = encode i ++ rest

/-- The classes of a six-byte window (spec/30_encoding.md R77, with R75 for `sync`): the decoder refuses by name. That
the tail is tested before the checksum is the spec's decision D5. -/
def Obligations.WindowClasses : Prop :=
  ∀ (f : CommandFrame) (rest : List Byte),
    (f.sync ≠ 0x55 → decode (f.bytes ++ rest) = .error (.notSync f.sync)) ∧
    (f.sync = 0x55 → f.tail ≠ 0xAA → decode (f.bytes ++ rest) = .error (.badTail f)) ∧
    (f.sync = 0x55 → f.tail = 0xAA →
      f.checksum.toNat ≠ (f.command.toNat + f.intensity.toNat + f.durationCode.toNat) % 256 →
      decode (f.bytes ++ rest) = .error (.checksumMismatch f)) ∧
    (f.sync = 0x55 → f.tail = 0xAA →
      f.checksum.toNat = (f.command.toNat + f.intensity.toNat + f.durationCode.toNat) % 256 →
      ∃ i, decode (f.bytes ++ rest) = .ok (i, rest))

/-- Frames written out byte by byte from the source's examples and the spec's vectors (spec/95_test_vectors.md V1, V2,
V3, V14, V44, V49) decode as the spec says, and one of them decodes so from its 48-bit table word. The numbering of that
word (spec/30_encoding.md R72) is the spec's own convention, decision D15 (notes/assumptions/11.md). -/
def Obligations.WrittenOutFramesDecode : Prop :=
  decode [0x55, 0x01, 0x32, 0x02, 0x35, 0xAA] = .ok (.play 50 2, []) ∧
  decode [0x55, 0x01, 0xFF, 0xFF, 0xFF, 0xAA] = .ok (.play 255 255, []) ∧
  decode [0x55, 0x00, 0x00, 0x00, 0x00, 0xAA] = .ok (.stop 0 0, []) ∧
  decode [0x55, 0x02, 0x00, 0x00, 0x02, 0xAA] = .ok (.unknown 2 0 0, []) ∧
  decode [0x55, 0x55, 0x00, 0x00, 0x55, 0xAA] = .ok (.unknown 0x55 0 0, []) ∧
  decode [0x55, 0x01, 0x32, 0x02, 0x99, 0xAA] =
    .error (.checksumMismatch ⟨0x55, 0x01, 0x32, 0x02, 0x99, 0xAA⟩) ∧
  decodeTableWord 48 0x5501320235AA = some (.play 50 2)

/-- The 48-bit word of the opcode table (spec/30_encoding.md R72) loses nothing. Its numbering is the spec's own
convention, decision D15 (notes/assumptions/11.md). -/
def Obligations.TableWordRoundTrip : Prop :=
  ∀ i : Instr, i.wf = true → decodeTableWord 48 i.frame.word.toNat = some i

/-! ## The commands: what each does and leaves alone -/

/-- A frame with command 0x00 is a valid STOP for every operand byte; `STOP` always completes and issues `Stop`,
whatever its operand bytes and whatever the driver's state; PlaybackState and everything else of the core stay
(spec/42_playback_scheduler.md R121). When the driver accepts, no diagnostic is raised and the driver is `Idle`; the
other case is `DirectiveFailureChangesNoCoreState`. -/
def Obligations.StopCompletes : Prop :=
  ∀ (intensity durationCode : Byte) (s : State), ∃ t,
    decodeFrame (mkFrame 0x00 intensity durationCode) = .ok (.stop intensity durationCode) ∧
    exec (.stop intensity durationCode) s = .next t ∧
    t.out.directive = some .stop ∧
    (s.pwmErr = false →
      t.out.diagnostic = s.out.diagnostic ∧ t.driver = .idle ∧ t.freeCount = s.freeCount) ∧
    t.dutyPercent = s.dutyPercent ∧ t.durationMs = s.durationMs ∧
    t.buf = s.buf ∧ t.cursor = s.cursor ∧ t.cfg = s.cfg ∧ t.pwmErr = s.pwmErr ∧ t.inputs = s.inputs ∧
    t.out.frame = s.out.frame ∧ t.out.echo = s.out.echo

/-- `PLAY` always completes: it stores the clamped duty and the duration and issues one `Start` whose numbers are
those of the pseudocode of spec/42_playback_scheduler.md R122, taken exactly. When the driver accepts, it runs with
them; the other case is `DirectiveFailureChangesNoCoreState`. Nothing else changes. That PlaybackState is written so
also when the driver rejects the directive (no roll-back, R124) is the spec's decision D11 (notes/assumptions/13.md). -/
def Obligations.PlayCompletes : Prop :=
  ∀ (intensity durationCode : Byte) (s : State), ∃ t ticks mode,
    exec (.play intensity durationCode) s = .next t ∧
    t.dutyPercent.toNat = min intensity.toNat 100 ∧
    t.durationMs.toNat = (if durationCode = 0 then 0 else durationCode.toNat * 50) ∧
    t.out.directive = some (.start ticks mode) ∧
    ticks.toNat = s.cfg.pwmPeriodTicks * min intensity.toNat 100 / 100 ∧
    (durationCode = 0 → mode = .loop) ∧
    (durationCode ≠ 0 → ∃ count, mode = .fixedCycles count ∧
      count.toNat =
        max 1 (min ((durationCode.toNat * 50 * 1000 + (s.cfg.pwmPeriodTicks + 1) - 1) /
          (s.cfg.pwmPeriodTicks + 1)) s.cfg.maxRepeat)) ∧
    (s.pwmErr = false →
      t.out.diagnostic = s.out.diagnostic ∧ t.driver = .running ticks mode ∧ t.freeCount = s.freeCount) ∧
    t.buf = s.buf ∧ t.cursor = s.cursor ∧ t.cfg = s.cfg ∧ t.pwmErr = s.pwmErr ∧ t.inputs = s.inputs ∧
    t.out.frame = s.out.frame ∧ t.out.echo = s.out.echo

/-- `UNKNOWN` always completes: the diagnostic is its only effect (spec/42_playback_scheduler.md R130). In the step
that completes such a frame the frame is emitted, no directive is issued, and PlaybackState stays. -/
def Obligations.UnknownCompletes : Prop :=
  (∀ (command intensity durationCode : Byte) (s : State),
    exec (.unknown command intensity durationCode) s =
      .next { s with out := { s.out with diagnostic := some (.unknownCommand command) } }) ∧
  (∀ s : State,
    s.cursor = 5 → s.currentInput.inByte = some 0xAA → 2 ≤ s.buf[1].toNat →
    s.buf[4].toNat = (s.buf[1].toNat + s.buf[2].toNat + s.buf[3].toNat) % 256 →
    ∃ t, step s = .next t ∧
      t.out = ⟨some (heldFrame 0xAA s), none, some (.unknownCommand s.buf[1]), some 0xAA⟩ ∧
      t.buf = s.buf.set 5 0xAA ∧ t.cursor = 0 ∧ t.dutyPercent = s.dutyPercent ∧ t.durationMs = s.durationMs ∧
      t.cfg = s.cfg)

/-- The same PLAY twice gives the same directive and leaves PlaybackState as the first left it
(spec/42_playback_scheduler.md R131, property Q7). That this holds whatever the driver answers each time rests on the
spec's decisions D11 (a rejected PLAY is not rolled back, R124) and D12 (the directive is issued all the same, R156);
notes/assumptions/13.md. -/
def Obligations.RepeatedPlayIsIdempotent : Prop :=
  ∀ (intensity durationCode : Byte) (s t u : State) (e : Bool),
    exec (.play intensity durationCode) s = .next t →
    exec (.play intensity durationCode) { t with out := .absent, pwmErr := e } = .next u →
    u.out.directive = t.out.directive ∧ u.out.directive.isSome ∧
    u.dutyPercent = t.dutyPercent ∧ u.durationMs = t.durationMs

/-- A rejected directive (spec/60_exceptions.md R156, decisions D11 and D12 of the spec): a step whose only difference
is `pwm_err` leaves the same core state and the same frame, directive and echo; where it issued a directive it also
raises `DIRECTIVE_FAILED`, and where it issued none `pwm_err` changes nothing but the port itself. -/
def Obligations.DirectiveFailureChangesNoCoreState : Prop :=
  ∀ (s : State) (b : Option Byte) (e : Bool) (rest : List StepInput), ∃ t u,
    step { s with inputs := ⟨b, false, e⟩ :: rest } = .next t ∧
    step { s with inputs := ⟨b, true, e⟩ :: rest } = .next u ∧
    u.buf = t.buf ∧ u.cursor = t.cursor ∧ u.dutyPercent = t.dutyPercent ∧ u.durationMs = t.durationMs ∧
    u.cfg = t.cfg ∧ u.inputs = t.inputs ∧
    u.out.frame = t.out.frame ∧ u.out.directive = t.out.directive ∧ u.out.echo = t.out.echo ∧
    (∀ d, t.out.directive = some d →
      t.out.diagnostic = none ∧ u.out.diagnostic = some (.directiveFailed d)) ∧
    (t.out.directive = none →
      u.out.diagnostic = t.out.diagnostic ∧ u.driver = t.driver ∧ u.freeCount = t.freeCount)

/-! ## The per-byte step -/

/-- A step runs the decoded instruction: where the five bytes held and the byte presented decode to an instruction,
the step is `exec` of it in the completed state (spec/20_memory.md R56, R59). -/
def Obligations.StepRunsDecodedInstruction : Prop :=
  ∀ (s : State) (b : Byte) (i : Instr),
    s.cursor = 5 → s.currentInput.inByte = some b → decode (heldFrame b s).bytes = .ok (i, []) →
    step s = exec i (completedState b s)

/-- `withFetchWord` does what it is for: the very next step runs the frame of the table word. A statement about the
model's own loading of a frame (notes/assumptions/5.md), in the spec's own numbering of the word, decision D15
(notes/assumptions/11.md). -/
def Obligations.FetchWordRunsNext : Prop :=
  ∀ (i : Instr) (s : State), i.wf = true →
    step (s.withFetchWord 48 i.frame.word.toNat) =
      exec i (completedState 0xAA (s.withFetchWord 48 i.frame.word.toNat))

/-- Every step, and so every run of any length, answers a next state: "it never blocks, faults or refuses a byte"
(spec/40_frame_decoder.md R90), with a byte presented or none. -/
def Obligations.StepAlwaysAnswersNext : Prop :=
  (∀ s : State, ∃ t, step s = .next t) ∧ (∀ (n : Nat) (s : State), ∃ t, Runs n s t)

/-- `feed` is the pseudocode of spec/40_frame_decoder.md R90 with `validate` (R110) and `apply` (R120, R122) written
into it. The order of the two checks is the spec's decision D5, the PlaybackState write before a directive that may be
rejected D11, the fate of a rejected directive (in `issue`) D12 (notes/assumptions/13.md). -/
def Obligations.FeedIsThePseudocode : Prop :=
  ∀ (b : Byte) (s : State), feed b s = .next (feedPseudo b s)

/-- `DROP` (spec/40_frame_decoder.md R91): a byte other than 0x55 at cursor 0 changes no state of the core and is
silent, and so does any number of them in a row. -/
def Obligations.DropStep : Prop :=
  (∀ (s : State) (b : Byte),
    s.cursor = 0 → s.currentInput.inByte = some b → b ≠ 0x55 →
    ∃ t, step s = .next t ∧ t.buf = s.buf ∧ t.cursor = 0 ∧ t.dutyPercent = s.dutyPercent ∧
      t.durationMs = s.durationMs ∧ t.cfg = s.cfg ∧ t.out = ⟨none, none, none, some b⟩) ∧
  (∀ (bs : List Byte) (s : State),
    s.cursor = 0 → Noise bs → Offers bs s →
    outputsOf bs.length s = bs.map (fun b => ⟨none, none, none, some b⟩) ∧
    ∃ t, Runs bs.length s t ∧ t.cursor = 0 ∧ t.buf = s.buf ∧
      t.dutyPercent = s.dutyPercent ∧ t.durationMs = s.durationMs)

/-- `SYNC` (spec/40_frame_decoder.md R92). That the environment's fields move as `passedState` says is the model's
choice (notes/assumptions/5.md, notes/assumptions/7.md). -/
def Obligations.SyncStep : Prop :=
  ∀ s : State,
    s.cursor = 0 → s.currentInput.inByte = some 0x55 →
    step s = .next
      { passedState ⟨none, none, none, some 0x55⟩ s with buf := s.buf.set 0 0x55, cursor := 1 }

/-- `APPEND` (spec/40_frame_decoder.md R93): at cursor 1..4 any byte is stored and the cursor advances by one. -/
def Obligations.AppendStep : Prop :=
  ∀ (s : State) (b : Byte),
    1 ≤ s.cursor.val → s.cursor.val ≤ 4 → s.currentInput.inByte = some b →
    ∃ t, step s = .next t ∧ t.buf = s.buf.set s.cursor.val b s.cursor.isLt ∧
      t.cursor.val = s.cursor.val + 1 ∧ t.dutyPercent = s.dutyPercent ∧ t.durationMs = s.durationMs ∧
      t.cfg = s.cfg ∧ t.out = ⟨none, none, none, some b⟩

/-- `COMPLETE` (spec/40_frame_decoder.md R94): the sixth byte, whatever it is, is stored, the cursor is 0 whatever
follows, and exactly one of the three outcomes is reported. Which of the two framing errors a candidate wrong in both
ways reports is the spec's decision D5 (notes/assumptions/13.md). -/
def Obligations.CompleteStep : Prop :=
  ∀ (s : State) (b : Byte),
    s.cursor = 5 → s.currentInput.inByte = some b →
    ∃ t, step s = .next t ∧ t.cursor = 0 ∧ t.buf = s.buf.set 5 b ∧ t.out.echo = some b ∧
      ((validate (heldFrame b s) = .badTail ∧ t.out.frame = none ∧ t.out.directive = none ∧
          t.out.diagnostic = some (.badTail (heldFrame b s))) ∨
       (validate (heldFrame b s) = .checksumMismatch ∧ t.out.frame = none ∧ t.out.directive = none ∧
          t.out.diagnostic = some (.checksumMismatch (heldFrame b s))) ∨
       (validate (heldFrame b s) = .valid ∧ t.out.frame = some (heldFrame b s) ∧
          exec (instrOf (heldFrame b s)) (completedState b s) = .next t))

/-- `BadTail` (spec/41_checksum_validator.md R112): with any checksum, right or wrong, the diagnostic is the step's
only output beside the echo, and the core's state changes by the completion alone. That a candidate wrong in both ways
reports the tail (R110, R157) is the spec's decision D5 (notes/assumptions/13.md). -/
def Obligations.BadTailStep : Prop :=
  ∀ (s : State) (b : Byte),
    s.cursor = 5 → s.currentInput.inByte = some b → b ≠ 0xAA →
    ∃ t, step s = .next t ∧ t.out = ⟨none, none, some (.badTail (heldFrame b s)), some b⟩ ∧
      t.buf = s.buf.set 5 b ∧ t.cursor = 0 ∧ t.dutyPercent = s.dutyPercent ∧ t.durationMs = s.durationMs ∧
      t.cfg = s.cfg

/-- `ChecksumMismatch` (spec/41_checksum_validator.md R113). -/
def Obligations.ChecksumMismatchStep : Prop :=
  ∀ s : State,
    s.cursor = 5 → s.currentInput.inByte = some 0xAA →
    s.buf[4].toNat ≠ (s.buf[1].toNat + s.buf[2].toNat + s.buf[3].toNat) % 256 →
    ∃ t, step s = .next t ∧ t.out = ⟨none, none, some (.checksumMismatch (heldFrame 0xAA s)), some 0xAA⟩ ∧
      t.buf = s.buf.set 5 0xAA ∧ t.cursor = 0 ∧ t.dutyPercent = s.dutyPercent ∧ t.durationMs = s.durationMs ∧
      t.cfg = s.cfg

/-- The command byte alone selects the operation (spec/30_encoding.md R74), and an invalid frame is never dispatched:
it gives no frame and no directive and leaves PlaybackState. -/
def Obligations.CommandByteSelects : Prop :=
  ∀ s : State, s.cursor = 5 →
    (s.currentInput.inByte = some 0xAA →
      s.buf[4].toNat = (s.buf[1].toNat + s.buf[2].toNat + s.buf[3].toNat) % 256 →
      (s.buf[1] = 0x00 → step s = exec (.stop s.buf[2] s.buf[3]) (completedState 0xAA s)) ∧
      (s.buf[1] = 0x01 → step s = exec (.play s.buf[2] s.buf[3]) (completedState 0xAA s)) ∧
      (2 ≤ s.buf[1].toNat →
        step s = exec (.unknown s.buf[1] s.buf[2] s.buf[3]) (completedState 0xAA s))) ∧
    (∀ b, s.currentInput.inByte = some b → validate (heldFrame b s) ≠ .valid →
      ∃ t, step s = .next t ∧ t.out.frame = none ∧ t.out.directive = none ∧
        t.dutyPercent = s.dutyPercent ∧ t.durationMs = s.durationMs)

/-- A 0x55 inside a candidate is data (spec/40_frame_decoder.md R95): at every cursor 1..5 it is stored and moves the
cursor as any other byte does. As the sixth byte it ends the candidate (R94) with `BAD_TAIL`
(spec/41_checksum_validator.md R112) and starts none; that the tail is reported also where the checksum is wrong too
is the spec's decision D5 (notes/assumptions/13.md). -/
def Obligations.SyncByteInsideIsData : Prop :=
  ∀ s : State,
    s.cursor ≠ 0 → s.currentInput.inByte = some 0x55 →
    ∃ t, step s = .next t ∧
      t.buf = s.buf.set s.cursor.val 0x55 s.cursor.isLt ∧
      (s.cursor ≠ 5 → t.cursor.val = s.cursor.val + 1 ∧ t.out = ⟨none, none, none, some 0x55⟩) ∧
      (s.cursor = 5 → t.cursor = 0 ∧ t.out = ⟨none, none, some (.badTail (heldFrame 0x55 s)), some 0x55⟩)

/-- With `in_valid` = 0 the state holds and every output is absent (spec/10_state.md R32, decision D1): only the
environment's own fields move, as notes/assumptions/5.md and notes/assumptions/7.md say. -/
def Obligations.NoByteHoldsTheState : Prop :=
  ∀ s : State, s.currentInput.inByte = none → step s = .next (passedState .absent s)

/-- The cursor stays, advances by one, or wraps to 0 on the sixth byte, and nothing else moves it
(spec/10_state.md R22; decision D1 for a step without a byte). -/
def Obligations.CursorMoves : Prop :=
  ∀ s t : State, step s = .next t →
    ((s.currentInput.inByte = none ∨
        ∃ b, s.currentInput.inByte = some b ∧ s.cursor = 0 ∧ b ≠ 0x55) ∧ t.cursor = s.cursor) ∨
    ((∃ b, s.currentInput.inByte = some b ∧ (s.cursor = 0 → b = 0x55) ∧ s.cursor ≠ 5) ∧
      t.cursor.val = s.cursor.val + 1) ∨
    (s.currentInput.inByte.isSome ∧ s.cursor = 5 ∧ t.cursor = 0)

/-- The echo of every step is the byte presented (spec/20_memory.md R64, decision D14). -/
def Obligations.EchoIsTheInputByte : Prop :=
  ∀ s t : State, step s = .next t → t.out.echo = s.currentInput.inByte

/-- A frame, a directive or a diagnostic appears only in a `COMPLETE` step (spec/40_frame_decoder.md R99,
spec/60_exceptions.md R153). -/
def Obligations.OutputsOnlyAtCompletion : Prop :=
  ∀ s t : State, step s = .next t →
    ¬ t.out.Quiet → s.cursor = 5 ∧ s.currentInput.inByte.isSome ∧ t.cursor = 0

/-- A directive is issued exactly by a completing valid STOP or PLAY frame (spec/42_playback_scheduler.md R131). -/
def Obligations.DirectiveExactlyForStopAndPlay : Prop :=
  ∀ s t : State, step s = .next t →
    (t.out.directive.isSome ↔
      s.cursor = 5 ∧ ∃ b, s.currentInput.inByte = some b ∧ validate (heldFrame b s) = .valid ∧
        (s.buf[1] = 0x00 ∨ s.buf[1] = 0x01))

/-- PlaybackState is written by a valid PLAY and by nothing else (spec/10_state.md R24, R26). That a step whose
directive is rejected writes it too (R124) is the spec's decision D11 (notes/assumptions/13.md). -/
def Obligations.OnlyPlayWritesPlaybackState : Prop :=
  ∀ s t : State, step s = .next t →
    (t.dutyPercent = s.dutyPercent ∧ t.durationMs = s.durationMs) ∨
    (s.cursor = 5 ∧ ∃ b, s.currentInput.inByte = some b ∧ validate (heldFrame b s) = .valid ∧
      s.buf[1] = 0x01 ∧
      t.dutyPercent.toNat = min s.buf[2].toNat 100 ∧ t.durationMs.toNat = s.buf[3].toNat * 50)

/-- No step writes the configuration (spec/10_state.md R27, spec/70_reset_and_hazards.md R193). The model's own fields
(notes/assumptions/4.md, 5.md, 6.md): every step takes one entry of what the environment presents and shows its
`pwm_err`, and draws a free value exactly where a directive is rejected. -/
def Obligations.StepKeepsConfiguration : Prop :=
  ∀ s t : State, step s = .next t →
    t.cfg = s.cfg ∧ t.inputs = s.inputs.tail ∧ t.pwmErr = s.currentInput.pwmErr ∧
    t.freeCount =
      s.freeCount + (if t.out.directive.isSome ∧ s.currentInput.pwmErr = true then 1 else 0)

/-! ## Invariants and reset -/

/-- The invariant of spec/10_state.md R23 (b), R24 and R25 is kept by every step from every state that has it. -/
def Obligations.StepKeepsInvariant : Prop :=
  ∀ s t : State, Inv s → step s = .next t → Inv t

/-- The invariant holds after reset, in every configuration. -/
def Obligations.ResetHasInvariant : Prop :=
  (∀ cfg : Config, Inv (State.resetOf cfg)) ∧ Inv State.reset

/-- Reset leaves the defaults of PlaybackState and issues nothing (spec/10_state.md R33, spec/70_reset_and_hazards.md
R182). That the cursor is 0 is the spec's decision D3; that the configuration of `State.reset` is the reference one is
the model's choice (notes/assumptions/2.md). -/
def Obligations.ResetState : Prop :=
  (∀ cfg : Config,
    (State.resetOf cfg).cfg = cfg ∧ (State.resetOf cfg).cursor = 0 ∧
    (State.resetOf cfg).dutyPercent.toNat = 50 ∧ (State.resetOf cfg).durationMs.toNat = 10 ∧
    (State.resetOf cfg).out = .absent) ∧
  State.reset = State.resetOf Config.reference

/-- The `rst` port of a hardware rendering (spec/70_reset_and_hazards.md R181, decision D21): cursor and PlaybackState
as after reset, no output; the configuration and what the environment presents stay. Nothing is said of the driver. -/
def Obligations.RstRestoresResetState : Prop :=
  ∀ s : State,
    s.assertRst.cursor = 0 ∧ s.assertRst.dutyPercent.toNat = 50 ∧ s.assertRst.durationMs.toNat = 10 ∧
    s.assertRst.out = .absent ∧ s.assertRst.cfg = s.cfg ∧ s.assertRst.inputs = s.inputs

/-- The bytes of `buf` at and above the cursor are never read (spec/10_state.md R21): what they hold, after reset too,
changes no output of any run. This is why the zeros of notes/assumptions/1.md cannot be seen. -/
def Obligations.StaleBufferIsUnobservable : Prop :=
  ∀ (n : Nat) (s : State) (k : Nat) (hk : k < 6) (v : Byte),
    s.cursor.val ≤ k → outputsOf n { s with buf := s.buf.set k v hk } = outputsOf n s

/-- PlaybackState cannot influence any output (spec/10_state.md R26, spec/42_playback_scheduler.md R132). -/
def Obligations.PlaybackStateIsUnobservable : Prop :=
  ∀ (n : Nat) (s : State) (x : BitVec 8) (y : BitVec 16),
    outputsOf n { s with dutyPercent := x, durationMs := y } = outputsOf n s

/-! ## Arithmetic -/

/-- Checksum arithmetic (spec/41_checksum_validator.md R115): the sum is at most 765, the checksum is it modulo 256 and
equals wrap-around addition of the three bytes; `sync`, `checksum` and `tail` are not summed. -/
def Obligations.ChecksumArithmetic : Prop :=
  (∀ c i d : Byte,
    frameSum c i d = c.toNat + i.toNat + d.toNat ∧ frameSum c i d ≤ 765 ∧
    (checksumOf c i d).toNat = frameSum c i d % 256 ∧ checksumOf c i d = c + i + d) ∧
  (∀ (f : CommandFrame) (x y z : Byte),
    checksumOf f.command f.intensity f.durationCode =
      checksumOf { f with sync := x, checksum := y, tail := z }.command
        { f with sync := x, checksum := y, tail := z }.intensity
        { f with sync := x, checksum := y, tail := z }.durationCode) ∧
  checksumOf 0x01 0x32 0x02 = 0x35 ∧ checksumOf 0x00 0x00 0x00 = 0x00 ∧
  checksumOf 0x01 0xFF 0xFF = 0xFF ∧ checksumOf 0xFF 0xFF 0xFF = 0xFD ∧
  checksumOf 0x01 0x55 0x55 = 0xAB

/-- What the check catches and what it does not (spec/41_checksum_validator.md R116): changing one of the five checked
bytes of a valid frame makes it invalid; two changes that cancel are not seen. -/
def Obligations.SingleByteChangeIsCaught : Prop :=
  (∀ (f : CommandFrame) (x : Byte), validate f = .valid →
    (x ≠ f.command → validate { f with command := x } = .checksumMismatch) ∧
    (x ≠ f.intensity → validate { f with intensity := x } = .checksumMismatch) ∧
    (x ≠ f.durationCode → validate { f with durationCode := x } = .checksumMismatch) ∧
    (x ≠ f.checksum → validate { f with checksum := x } = .checksumMismatch) ∧
    (x ≠ f.tail → validate { f with tail := x } = .badTail)) ∧
  (∀ (f : CommandFrame) (x : Byte), validate f = .valid →
    validate { f with intensity := f.intensity + x, durationCode := f.durationCode - x } = .valid)

/-- Operand values (spec/42_playback_scheduler.md R123): the clamp at 100, the duration in units of 50 ms, 0 for
"forever" only. -/
def Obligations.OperandValues : Prop :=
  (∀ i : Byte, dutyOf i = min i.toNat 100 ∧ dutyOf i ≤ 100) ∧
  (∀ d : Byte, (d = 0 → durationOf d = 0) ∧ (d ≠ 0 → durationOf d = d.toNat * 50) ∧
    (durationOf d = 0 ↔ d = 0) ∧ durationOf d ≤ 12750) ∧
  dutyOf 100 = 100 ∧ dutyOf 101 = 100 ∧ dutyOf 150 = 100 ∧ dutyOf 255 = 100 ∧ dutyOf 0 = 0

/-- Duty ticks (spec/42_playback_scheduler.md R125): the exact floor, at most P, so it fits 16 bits; 0 and P at the
ends; monotone; exact when P is a multiple of 100. -/
def Obligations.DutyTicksExact : Prop :=
  (∀ (cfg : Config) (duty : Nat), duty ≤ 100 →
    dutyTicks cfg duty * 100 ≤ cfg.pwmPeriodTicks * duty ∧
    cfg.pwmPeriodTicks * duty < (dutyTicks cfg duty + 1) * 100 ∧
    dutyTicks cfg duty ≤ cfg.pwmPeriodTicks ∧
    (BitVec.ofNat 16 (dutyTicks cfg duty)).toNat = dutyTicks cfg duty ∧
    (∀ duty' ≤ duty, dutyTicks cfg duty' ≤ dutyTicks cfg duty) ∧
    (cfg.pwmPeriodTicks % 100 = 0 → dutyTicks cfg duty * 100 = cfg.pwmPeriodTicks * duty)) ∧
  (∀ cfg : Config, dutyTicks cfg 0 = 0 ∧ dutyTicks cfg 100 = cfg.pwmPeriodTicks) ∧
  (∀ cfg : Config, cfg.pwmPeriodTicks = 65535 → dutyTicks cfg 50 = 32767) ∧
  (∀ cfg : Config, cfg.pwmPeriodTicks = 999 → dutyTicks cfg 1 = 9) ∧
  (∀ cfg : Config, cfg.pwmPeriodTicks = 10000 → dutyTicks cfg 50 = 5000)

/-- The cycle count of a finite PLAY (spec/42_playback_scheduler.md R128 a, b, c): in 1..M and so in 16 bits; where the
upper clamp is idle the waveform lasts at least the requested time and less than one period more; with M = 65535 the
clamp is idle for every P from 194 on. -/
def Obligations.CycleCountBounds : Prop :=
  ∀ (cfg : Config) (d : Byte), d ≠ 0 →
    1 ≤ cyclesRaw cfg (durationOf d) ∧
    1 ≤ cyclesOf cfg (durationOf d) ∧ cyclesOf cfg (durationOf d) ≤ cfg.maxRepeat ∧
    (BitVec.ofNat 16 (cyclesOf cfg (durationOf d))).toNat = cyclesOf cfg (durationOf d) ∧
    (cyclesRaw cfg (durationOf d) ≤ cfg.maxRepeat →
      d.toNat * 50000 ≤ cyclesOf cfg (durationOf d) * (cfg.pwmPeriodTicks + 1) ∧
      (cyclesOf cfg (durationOf d) - 1) * (cfg.pwmPeriodTicks + 1) < d.toNat * 50000) ∧
    (cfg.maxRepeat < cyclesRaw cfg (durationOf d) → cyclesOf cfg (durationOf d) = cfg.maxRepeat) ∧
    (194 ≤ cfg.pwmPeriodTicks → cyclesRaw cfg (durationOf d) ≤ 65535)

/-! ## Streams -/

/-- Six bytes, the first 0x55, fed from cursor 0 with whatever the driver does: five silent steps, and then the
candidate is exactly the six bytes delivered (spec/20_memory.md R59, spec/10_state.md R23 c). -/
def Obligations.CandidateIsTheBytesDelivered : Prop :=
  ∀ (s : State) (f : CommandFrame),
    s.cursor = 0 → f.sync = 0x55 → Offers f.bytes s →
    (∀ o ∈ outputsOf 5 s, o.Quiet) ∧
    ∃ u, Runs 5 s u ∧ u.cursor = 5 ∧ u.currentInput.inByte = some f.tail ∧ heldFrame f.tail u = f ∧
      u.dutyPercent = s.dutyPercent ∧ u.durationMs = s.durationMs ∧ u.cfg = s.cfg

/-- Resynchronization (spec/40_frame_decoder.md R101, property Q4): noise without a 0x55, then the frame of a command,
from cursor 0. Nothing but the echo comes out until the last byte, and that step runs the command. -/
def Obligations.ResyncAfterNoise : Prop :=
  ∀ (s : State) (noise : List Byte) (i : Instr),
    s.cursor = 0 → Noise noise → i.wf = true → Offers (noise ++ encode i) s →
    (∀ o ∈ outputsOf (noise.length + 5) s, o.Quiet) ∧
    ∃ u t, Runs (noise.length + 5) s u ∧
      u.dutyPercent = s.dutyPercent ∧ u.durationMs = s.durationMs ∧ u.cfg = s.cfg ∧
      step u = exec i (completedState 0xAA u) ∧
      step u = .next t ∧ t.cursor = 0 ∧ t.out.frame = some i.frame

/-- After a rejected frame the decoder is clean (spec/40_frame_decoder.md R100): no frame is emitted, the cursor is 0,
and a 0x55 presented to the very next step starts a candidate. -/
def Obligations.RejectedFrameLeavesCleanDecoder : Prop :=
  ∀ (s : State) (b : Byte),
    s.cursor = 5 → s.currentInput.inByte = some b →
    (b ≠ 0xAA ∨ s.buf[4].toNat ≠ (s.buf[1].toNat + s.buf[2].toNat + s.buf[3].toNat) % 256) →
    ∃ t, step s = .next t ∧ t.out.frame = none ∧ t.cursor = 0 ∧
      (t.currentInput.inByte = some 0x55 →
        ∃ u, step t = .next u ∧ u.cursor = 1 ∧ u.buf[0] = 0x55)

/-- No timeout and no abort (spec/40_frame_decoder.md R96): however steps with and without a byte follow one another, a
candidate of k bytes that has received m more, k + m at most 5, holds k + m bytes. -/
def Obligations.CandidateHasNoTimeout : Prop :=
  ∀ (n : Nat) (s : State),
    s.cursor ≠ 0 →
    s.cursor.val + ((s.inputs.take n).filter (fun inp => inp.inByte.isSome)).length ≤ 5 →
    (∀ o ∈ outputsOf n s, o.Quiet) ∧
    ∃ t, Runs n s t ∧
      t.cursor.val = s.cursor.val + ((s.inputs.take n).filter (fun inp => inp.inByte.isSome)).length

/-- Frames are at least six steps apart (spec/40_frame_decoder.md R99). -/
def Obligations.FramesAreSixStepsApart : Prop :=
  ∀ s t : State, step s = .next t → t.out.frame.isSome → ∀ o ∈ outputsOf 5 t, o.frame = none

/-- The five-byte flush (spec/70_reset_and_hazards.md R186): from any state, five bytes none of which is 0x55 bring the
cursor to 0; if none is 0xAA either, no frame is emitted, no directive issued and PlaybackState stays. -/
def Obligations.FiveByteFlush : Prop :=
  ∀ (s : State) (bs : List Byte),
    bs.length = 5 → Noise bs → Offers bs s →
    ∃ t, Runs 5 s t ∧ t.cursor = 0 ∧
      ((∀ b ∈ bs, b ≠ 0xAA) →
        (∀ o ∈ outputsOf 5 s, o.frame = none ∧ o.directive = none) ∧
        t.dutyPercent = s.dutyPercent ∧ t.durationMs = s.durationMs)

/-- Chunk-boundary independence (spec/20_memory.md R60, property Q1): a stream delivered in any chunks, each fed to its
end before the next comes, gives the outputs of the same bytes delivered at once. -/
def Obligations.ChunksDoNotMatter : Prop :=
  ∀ (chunks : List (List Byte)) (s : State), s.inputs = [] →
    outputsOfChunks chunks s = outputsOf chunks.flatten.length (s.present chunks.flatten)

/-! ## The PWM driver and the ports -/

/-- A directive the driver accepts takes it to `Running` with the directive's arguments, or to `Idle`, from any state
(spec/60_exceptions.md R167). -/
def Obligations.DriverTakesTheDirective : Prop :=
  ∀ s t : State, step s = .next t → s.currentInput.pwmErr = false →
    (∀ ticks mode, t.out.directive = some (.start ticks mode) → t.driver = .running ticks mode) ∧
    (t.out.directive = some .stop → t.driver = .idle)

/-- Without a directive the driver changes only by the end of a finite waveform, at the environment's choice; `Loop`
never ends by itself (spec/60_exceptions.md R168, decision D19; the end stands at the boundary before the step,
notes/assumptions/7.md). -/
def Obligations.DriverEndsOnlyFiniteWaveforms : Prop :=
  ∀ s t : State, step s = .next t → t.out.directive = none →
    (∀ ticks, s.driver = .running ticks .loop → t.driver = s.driver) ∧
    (∀ ticks count, s.driver = .running ticks (.fixedCycles count) →
      t.driver = if s.currentInput.cyclesExhausted then .idle else s.driver) ∧
    (s.driver = .idle → t.driver = .idle)

/-- The codes on the ports (spec/60_exceptions.md R150 and spec/10_state.md R32; the numbers are the spec's decisions
D1 and D6). -/
def Obligations.PortCodes : Prop :=
  ∀ s : State,
    (s.out.diagnostic = none → portDiagCode s = 0) ∧
    (∀ f, s.out.diagnostic = some (.badTail f) → portDiagCode s = 1) ∧
    (∀ f, s.out.diagnostic = some (.checksumMismatch f) → portDiagCode s = 2) ∧
    (∀ c, s.out.diagnostic = some (.unknownCommand c) → portDiagCode s = 3) ∧
    (∀ d, s.out.diagnostic = some (.directiveFailed d) → portDiagCode s = 4) ∧
    (s.out.directive = none → portDirKind s = 0) ∧
    (∀ t m, s.out.directive = some (.start t m) →
      portDirKind s = 1 ∧ portDirDutyTicks s = some t ∧
      (m = .loop → portDirLoop s = some true ∧ portDirCycleCount s = none) ∧
      (∀ n, m = .fixedCycles n → portDirLoop s = some false ∧ portDirCycleCount s = some n)) ∧
    (s.out.directive = some .stop → portDirKind s = 2)
end

