-- ==== Sys2Proof/Laws/Decode.lean ====
section
/-! SUPPORT. What the validator, the opcode map and the decoder can answer. -/

namespace Sys2Proof

theorem validate_eq_badTail_iff (f : CommandFrame) :
    validate f = .badTail ↔ f.tail ≠ tailByte := by
  unfold validate; split
  · simp_all
  · split <;> simp_all

theorem validate_eq_checksumMismatch_iff (f : CommandFrame) :
    validate f = .checksumMismatch ↔
      f.tail = tailByte ∧ f.checksum ≠ checksumOf f.command f.intensity f.durationCode := by
  unfold validate; split
  · simp_all
  · split <;> simp_all

theorem validate_eq_valid_iff (f : CommandFrame) :
    validate f = .valid ↔
      f.tail = tailByte ∧ f.checksum = checksumOf f.command f.intensity f.durationCode := by
  unfold validate; split
  · simp_all
  · split <;> simp_all

/-- The encoder's frame passes the validator. -/
theorem validate_mkFrame (c i d : Byte) : validate (mkFrame c i d) = .valid := by
  simp [validate_eq_valid_iff, mkFrame]

theorem instrOf_of_stop {f : CommandFrame} (h : f.command = cmdStop) :
    instrOf f = .stop f.intensity f.durationCode := by simp [instrOf, h]

theorem instrOf_of_play {f : CommandFrame} (h : f.command = cmdPlay) :
    instrOf f = .play f.intensity f.durationCode := by
  simp [instrOf, h, show cmdPlay ≠ cmdStop by decide]

theorem instrOf_of_unknown {f : CommandFrame} (h0 : f.command ≠ cmdStop) (h1 : f.command ≠ cmdPlay) :
    instrOf f = .unknown f.command f.intensity f.durationCode := by simp [instrOf, h0, h1]

theorem decodeFrame_eq_ok_iff (f : CommandFrame) (i : Instr) :
    decodeFrame f = .ok i ↔ validate f = .valid ∧ instrOf f = i := by
  unfold decodeFrame; split <;> simp_all

/-- A command byte is `STOP`'s, `PLAY`'s, or in the range of `UNKNOWN` (spec/30_encoding.md R74). -/
theorem command_cases (c : Byte) : c = cmdStop ∨ c = cmdPlay ∨ 2 ≤ c.toNat := by
  by_cases h : 2 ≤ c.toNat
  · exact .inr (.inr h)
  · have : c.toNat = 0 ∨ c.toNat = 1 := by omega
    rcases this with h | h
    · exact .inl (BitVec.eq_of_toNat_eq h)
    · exact .inr (.inl (BitVec.eq_of_toNat_eq h))

end Sys2Proof
end

