-- ==== Sys2Proof/Laws/State.lean ====
section
/-! SUPPORT. One lemma per field of the state and operation on it, so that no later proof unfolds a record update. -/

namespace Sys2Proof.Machine

variable (s : State)

/-! ## The start of a step writes the environment's fields and clears the outputs -/

@[simp] theorem State.beginStep_cfg : (s.beginStep).cfg = s.cfg := rfl

@[simp] theorem State.beginStep_buf : (s.beginStep).buf = s.buf := rfl

@[simp] theorem State.beginStep_cursor : (s.beginStep).cursor = s.cursor := rfl

@[simp] theorem State.beginStep_dutyPercent : (s.beginStep).dutyPercent = s.dutyPercent := rfl

@[simp] theorem State.beginStep_durationMs : (s.beginStep).durationMs = s.durationMs := rfl

@[simp] theorem State.beginStep_driver :
    (s.beginStep).driver = driverBoundary s.currentInput.cyclesExhausted s.driver := rfl

@[simp] theorem State.beginStep_pwmErr : (s.beginStep).pwmErr = s.currentInput.pwmErr := rfl

@[simp] theorem State.beginStep_inputs : (s.beginStep).inputs = s.inputs.tail := rfl

@[simp] theorem State.beginStep_out : (s.beginStep).out = .absent := rfl

@[simp] theorem State.beginStep_freeCount : (s.beginStep).freeCount = s.freeCount := rfl

/-! ## `echo` writes one output -/

@[simp] theorem State.echoByte_cfg (b : Byte) : (s.echoByte b).cfg = s.cfg := rfl

@[simp] theorem State.echoByte_buf (b : Byte) : (s.echoByte b).buf = s.buf := rfl

@[simp] theorem State.echoByte_cursor (b : Byte) : (s.echoByte b).cursor = s.cursor := rfl

@[simp] theorem State.echoByte_dutyPercent (b : Byte) :
    (s.echoByte b).dutyPercent = s.dutyPercent := rfl

@[simp] theorem State.echoByte_durationMs (b : Byte) :
    (s.echoByte b).durationMs = s.durationMs := rfl

@[simp] theorem State.echoByte_driver (b : Byte) : (s.echoByte b).driver = s.driver := rfl

@[simp] theorem State.echoByte_pwmErr (b : Byte) : (s.echoByte b).pwmErr = s.pwmErr := rfl

@[simp] theorem State.echoByte_inputs (b : Byte) : (s.echoByte b).inputs = s.inputs := rfl

@[simp] theorem State.echoByte_out (b : Byte) :
    (s.echoByte b).out = { s.out with echo := some b } := rfl

@[simp] theorem State.echoByte_freeCount (b : Byte) : (s.echoByte b).freeCount = s.freeCount := rfl

/-! ## `emit` writes one output -/

@[simp] theorem State.emitFrame_cfg (f : CommandFrame) : (s.emitFrame f).cfg = s.cfg := rfl

@[simp] theorem State.emitFrame_buf (f : CommandFrame) : (s.emitFrame f).buf = s.buf := rfl

@[simp] theorem State.emitFrame_cursor (f : CommandFrame) : (s.emitFrame f).cursor = s.cursor := rfl

@[simp] theorem State.emitFrame_dutyPercent (f : CommandFrame) :
    (s.emitFrame f).dutyPercent = s.dutyPercent := rfl

@[simp] theorem State.emitFrame_durationMs (f : CommandFrame) :
    (s.emitFrame f).durationMs = s.durationMs := rfl

@[simp] theorem State.emitFrame_driver (f : CommandFrame) : (s.emitFrame f).driver = s.driver := rfl

@[simp] theorem State.emitFrame_pwmErr (f : CommandFrame) : (s.emitFrame f).pwmErr = s.pwmErr := rfl

@[simp] theorem State.emitFrame_inputs (f : CommandFrame) : (s.emitFrame f).inputs = s.inputs := rfl

@[simp] theorem State.emitFrame_out (f : CommandFrame) :
    (s.emitFrame f).out = { s.out with frame := some f } := rfl

@[simp] theorem State.emitFrame_freeCount (f : CommandFrame) :
    (s.emitFrame f).freeCount = s.freeCount := rfl

/-! ## A diagnostic is one output and no state (spec/60_exceptions.md R158) -/

@[simp] theorem State.raiseDiag_cfg (d : Diagnostic) : (s.raiseDiag d).cfg = s.cfg := rfl

@[simp] theorem State.raiseDiag_buf (d : Diagnostic) : (s.raiseDiag d).buf = s.buf := rfl

@[simp] theorem State.raiseDiag_cursor (d : Diagnostic) : (s.raiseDiag d).cursor = s.cursor := rfl

@[simp] theorem State.raiseDiag_dutyPercent (d : Diagnostic) :
    (s.raiseDiag d).dutyPercent = s.dutyPercent := rfl

@[simp] theorem State.raiseDiag_durationMs (d : Diagnostic) :
    (s.raiseDiag d).durationMs = s.durationMs := rfl

@[simp] theorem State.raiseDiag_driver (d : Diagnostic) : (s.raiseDiag d).driver = s.driver := rfl

@[simp] theorem State.raiseDiag_pwmErr (d : Diagnostic) : (s.raiseDiag d).pwmErr = s.pwmErr := rfl

@[simp] theorem State.raiseDiag_inputs (d : Diagnostic) : (s.raiseDiag d).inputs = s.inputs := rfl

@[simp] theorem State.raiseDiag_out (d : Diagnostic) :
    (s.raiseDiag d).out = { s.out with diagnostic := some d } := rfl

@[simp] theorem State.raiseDiag_freeCount (d : Diagnostic) :
    (s.raiseDiag d).freeCount = s.freeCount := rfl

/-! ## Issuing a directive (spec/60_exceptions.md R156) -/

@[simp] theorem State.issue_cfg (d : PlaybackDirective) : (s.issue d).cfg = s.cfg := rfl

@[simp] theorem State.issue_buf (d : PlaybackDirective) : (s.issue d).buf = s.buf := rfl

@[simp] theorem State.issue_cursor (d : PlaybackDirective) : (s.issue d).cursor = s.cursor := rfl

@[simp] theorem State.issue_dutyPercent (d : PlaybackDirective) :
    (s.issue d).dutyPercent = s.dutyPercent := rfl

@[simp] theorem State.issue_durationMs (d : PlaybackDirective) :
    (s.issue d).durationMs = s.durationMs := rfl

@[simp] theorem State.issue_driver (d : PlaybackDirective) :
    (s.issue d).driver = if s.pwmErr then Config.freeDriver s.freeCount else driverAccept d := rfl

@[simp] theorem State.issue_pwmErr (d : PlaybackDirective) : (s.issue d).pwmErr = s.pwmErr := rfl

@[simp] theorem State.issue_inputs (d : PlaybackDirective) : (s.issue d).inputs = s.inputs := rfl

@[simp] theorem State.issue_out (d : PlaybackDirective) :
    (s.issue d).out = { s.out with
      directive := some d
      diagnostic := if s.pwmErr then some (.directiveFailed d) else s.out.diagnostic } := rfl

@[simp] theorem State.issue_freeCount (d : PlaybackDirective) :
    (s.issue d).freeCount = if s.pwmErr then s.freeCount + 1 else s.freeCount := rfl

/-! ## The append of an accepted byte -/

@[simp] theorem State.append_cfg (b : Byte) : (s.append b).cfg = s.cfg := rfl

@[simp] theorem State.append_buf (b : Byte) :
    (s.append b).buf = s.buf.set s.cursor.val b s.cursor.isLt := rfl

@[simp] theorem State.append_cursor (b : Byte) : (s.append b).cursor = s.cursor + 1 := rfl

@[simp] theorem State.append_dutyPercent (b : Byte) :
    (s.append b).dutyPercent = s.dutyPercent := rfl

@[simp] theorem State.append_durationMs (b : Byte) : (s.append b).durationMs = s.durationMs := rfl

@[simp] theorem State.append_driver (b : Byte) : (s.append b).driver = s.driver := rfl

@[simp] theorem State.append_pwmErr (b : Byte) : (s.append b).pwmErr = s.pwmErr := rfl

@[simp] theorem State.append_inputs (b : Byte) : (s.append b).inputs = s.inputs := rfl

@[simp] theorem State.append_out (b : Byte) : (s.append b).out = s.out := rfl

@[simp] theorem State.append_freeCount (b : Byte) : (s.append b).freeCount = s.freeCount := rfl

/-! ## The one write of PlaybackState (spec/42_playback_scheduler.md R124) -/

@[simp] theorem State.setPlayback_cfg (duty durMs : Nat) :
    (s.setPlayback duty durMs).cfg = s.cfg := rfl

@[simp] theorem State.setPlayback_buf (duty durMs : Nat) :
    (s.setPlayback duty durMs).buf = s.buf := rfl

@[simp] theorem State.setPlayback_cursor (duty durMs : Nat) :
    (s.setPlayback duty durMs).cursor = s.cursor := rfl

@[simp] theorem State.setPlayback_dutyPercent (duty durMs : Nat) :
    (s.setPlayback duty durMs).dutyPercent = BitVec.ofNat 8 duty := rfl

@[simp] theorem State.setPlayback_durationMs (duty durMs : Nat) :
    (s.setPlayback duty durMs).durationMs = BitVec.ofNat 16 durMs := rfl

@[simp] theorem State.setPlayback_driver (duty durMs : Nat) :
    (s.setPlayback duty durMs).driver = s.driver := rfl

@[simp] theorem State.setPlayback_pwmErr (duty durMs : Nat) :
    (s.setPlayback duty durMs).pwmErr = s.pwmErr := rfl

@[simp] theorem State.setPlayback_inputs (duty durMs : Nat) :
    (s.setPlayback duty durMs).inputs = s.inputs := rfl

@[simp] theorem State.setPlayback_out (duty durMs : Nat) :
    (s.setPlayback duty durMs).out = s.out := rfl

@[simp] theorem State.setPlayback_freeCount (duty durMs : Nat) :
    (s.setPlayback duty durMs).freeCount = s.freeCount := rfl

/-! ## The byte source delivering bytes -/

@[simp] theorem State.present_cfg (bs : List Byte) : (s.present bs).cfg = s.cfg := rfl

@[simp] theorem State.present_buf (bs : List Byte) : (s.present bs).buf = s.buf := rfl

@[simp] theorem State.present_cursor (bs : List Byte) : (s.present bs).cursor = s.cursor := rfl

@[simp] theorem State.present_dutyPercent (bs : List Byte) :
    (s.present bs).dutyPercent = s.dutyPercent := rfl

@[simp] theorem State.present_durationMs (bs : List Byte) :
    (s.present bs).durationMs = s.durationMs := rfl

@[simp] theorem State.present_driver (bs : List Byte) : (s.present bs).driver = s.driver := rfl

@[simp] theorem State.present_pwmErr (bs : List Byte) : (s.present bs).pwmErr = s.pwmErr := rfl

@[simp] theorem State.present_inputs (bs : List Byte) :
    (s.present bs).inputs = s.inputs ++ bs.map StepInput.ofByte := rfl

@[simp] theorem State.present_out (bs : List Byte) : (s.present bs).out = s.out := rfl

@[simp] theorem State.present_freeCount (bs : List Byte) :
    (s.present bs).freeCount = s.freeCount := rfl

end Sys2Proof.Machine
end

