-- ==== Sys2Proof/Laws/Ops.lean ====
section
/-! SUPPORT. What each shared operation and each case of a step can do, said once, for the proofs to cite. -/

namespace Sys2Proof.Machine

/-! ## The PWM driver -/

@[simp] theorem driverBoundary_idle (e : Bool) : driverBoundary e .idle = .idle := rfl

@[simp] theorem driverBoundary_loop (e : Bool) (t : U16) :
    driverBoundary e (.running t .loop) = .running t .loop := rfl

@[simp] theorem driverBoundary_false (d : PwmDriver) : driverBoundary false d = d := by
  rcases d with _ | ⟨t, _ | n⟩ <;> rfl

/-! ## Issuing a directive -/

/-- With no `pwm_err`, `issue` outputs the directive, the driver takes it, and nothing else changes. -/
theorem State.issue_accepted {s : State} (d : PlaybackDirective) (h : s.pwmErr = false) :
    s.issue d = { s with out := { s.out with directive := some d }, driver := driverAccept d } := by
  simp [State.issue, h]

/-- With `pwm_err`, `issue` outputs the same directive and the diagnostic, and the driver's state is drawn. -/
theorem State.issue_rejected {s : State} (d : PlaybackDirective) (h : s.pwmErr = true) :
    s.issue d =
      { s with
        out := { s.out with directive := some d, diagnostic := some (.directiveFailed d) }
        driver := Config.freeDriver s.freeCount
        freeCount := s.freeCount + 1 } := by
  simp [State.issue, h]

/-! ## The commands -/

@[simp] theorem exec_stop (i d : Byte) (s : State) : exec (.stop i d) s = .next (s.issue .stop) := rfl

@[simp] theorem exec_play (i d : Byte) (s : State) :
    exec (.play i d) s =
      .next ((s.setPlayback (dutyOf i) (durationOf d)).issue (startOf s.cfg i d)) := rfl

@[simp] theorem exec_unknown (c i d : Byte) (s : State) :
    exec (.unknown c i d) s = .next (s.raiseDiag (.unknownCommand c)) := rfl

/-- What a command can do: it issues `Stop`, stores and issues `Start`, or raises `UNKNOWN_COMMAND`. -/
theorem exec_cases (i : Instr) (s : State) :
    (∃ a b, i = .stop a b ∧ exec i s = .next (s.issue .stop)) ∨
    (∃ a b, i = .play a b ∧
      exec i s = .next ((s.setPlayback (dutyOf a) (durationOf b)).issue (startOf s.cfg a b))) ∨
    (∃ c a b, i = .unknown c a b ∧ exec i s = .next (s.raiseDiag (.unknownCommand c))) := by
  cases i with
  | stop a b => exact .inl ⟨a, b, rfl, rfl⟩
  | play a b => exact .inr (.inl ⟨a, b, rfl, rfl⟩)
  | unknown c a b => exact .inr (.inr ⟨c, a, b, rfl, rfl⟩)

/-! ## The cases of a step -/

theorem feedCase_eq_drop_iff (c : Fin 6) (b : Byte) :
    feedCase c b = .drop ↔ c = 0 ∧ b ≠ syncByte := by
  unfold feedCase; split
  · split <;> simp_all
  · split <;> simp_all

theorem feedCase_eq_sync_iff (c : Fin 6) (b : Byte) :
    feedCase c b = .sync ↔ c = 0 ∧ b = syncByte := by
  unfold feedCase; split
  · split <;> simp_all
  · split <;> simp_all

theorem feedCase_eq_append_iff (c : Fin 6) (b : Byte) :
    feedCase c b = .append ↔ c ≠ 0 ∧ c ≠ 5 := by
  unfold feedCase; split
  · split <;> simp_all
  · split <;> simp_all

theorem feedCase_eq_complete_iff (c : Fin 6) (b : Byte) : feedCase c b = .complete ↔ c = 5 := by
  unfold feedCase; split
  · split <;> simp_all
  · split <;> simp_all

/-- A step presented no byte holds the core's state. -/
theorem step_of_none {s : State} (h : s.currentInput.inByte = none) :
    step s = .next s.beginStep := by simp [step, h, feedPort]

/-- A step presented a byte feeds it. -/
theorem step_of_some {s : State} {b : Byte} (h : s.currentInput.inByte = some b) :
    step s = feed b s.beginStep := by simp [step, h, feedPort]

/-- What judging a candidate can do: raise one of the two framing errors, or emit and execute. -/
theorem judgeCandidate_cases (f : CommandFrame) (s : State) :
    (validate f = .badTail ∧ judgeCandidate f s = .next (s.raiseDiag (.badTail f))) ∨
    (validate f = .checksumMismatch ∧ judgeCandidate f s = .next (s.raiseDiag (.checksumMismatch f))) ∨
    (validate f = .valid ∧ judgeCandidate f s = exec (instrOf f) (s.emitFrame f)) := by
  unfold judgeCandidate; split <;> simp_all [applyFrame]

/-- What feeding a byte can do, one disjunct per case of spec/40_frame_decoder.md. -/
theorem feed_cases (b : Byte) (s : State) :
    ((s.cursor = 0 ∧ b ≠ syncByte) ∧ feed b s = .next (s.echoByte b)) ∨
    (((s.cursor = 0 ∧ b = syncByte) ∨ (s.cursor ≠ 0 ∧ s.cursor ≠ 5)) ∧
      feed b s = .next ((s.echoByte b).append b)) ∨
    (s.cursor = 5 ∧
      feed b s = judgeCandidate ((s.echoByte b).append b).candidate ((s.echoByte b).append b)) := by
  unfold feed; split
  · next h => exact .inl ⟨(feedCase_eq_drop_iff _ _).1 h, rfl⟩
  · next h => exact .inr (.inl ⟨.inl ((feedCase_eq_sync_iff _ _).1 h), rfl⟩)
  · next h => exact .inr (.inl ⟨.inr ((feedCase_eq_append_iff _ _).1 h), rfl⟩)
  · next h => exact .inr (.inr ⟨(feedCase_eq_complete_iff _ _).1 h, rfl⟩)

/-- The candidate right after the sixth byte: the five bytes held and the new one. -/
theorem State.append_candidate {s : State} (b : Byte) (h : s.cursor = 5) :
    (s.append b).candidate = ⟨s.buf[0], s.buf[1], s.buf[2], s.buf[3], s.buf[4], b⟩ := by
  simp [State.candidate, h]

end Sys2Proof.Machine
end

