-- ==== Sys2Proof/Laws/PerInstr.lean ====
section
/-! SUPPORT. Facts of every command as syntax, one lemma per constructor of `Instr`. -/

namespace Sys2Proof.Laws

/-- Six bytes, the sync byte first and the tail byte last (spec/30_encoding.md R70). -/
def EncodeFramed.Statement (i : Instr) : Prop :=
  (encode i).length = 6 ∧ (encode i).head? = some syncByte ∧ (encode i).getLast? = some tailByte

theorem EncodeFramed.stop (i d : Byte) : EncodeFramed.Statement (.stop i d) := ⟨rfl, rfl, rfl⟩

theorem EncodeFramed.play (i d : Byte) : EncodeFramed.Statement (.play i d) := ⟨rfl, rfl, rfl⟩

theorem EncodeFramed.unknown (c i d : Byte) : EncodeFramed.Statement (.unknown c i d) := ⟨rfl, rfl, rfl⟩

/-- The encoder's frame is valid (spec/30_encoding.md R73). -/
def FrameValid.Statement (i : Instr) : Prop := validate i.frame = .valid

theorem FrameValid.stop (i d : Byte) : FrameValid.Statement (.stop i d) := validate_mkFrame ..

theorem FrameValid.play (i d : Byte) : FrameValid.Statement (.play i d) := validate_mkFrame ..

theorem FrameValid.unknown (c i d : Byte) : FrameValid.Statement (.unknown c i d) := validate_mkFrame ..

end Sys2Proof.Laws
end

