-- ==== Sys2Proof/Tests/Slice0.lean ====
section
/-! SUPPORT. Tests of the model against the spec's vectors (spec/95_test_vectors.md), the smoke tests of the checks,
and one witness for every statement that has hypotheses. -/

namespace Sys2Proof.Tests

open Sys2Proof.Machine

/-- Does the outcome answer a next state with this property? -/
def answers (o : Host.Outcome State Fault Refusal) (p : State → Bool) : Bool :=
  match o with
  | .next t => p t
  | .fault _ => false
  | .refused _ => false

/-- A configuration for a test. -/
def cfgOf (p m : Nat) (hp : 1 ≤ p ∧ p ≤ 65535 := by decide) (hm : 1 ≤ m ∧ m ≤ 65535 := by decide) : Config :=
  ⟨p, m, hp, hm⟩

/-- The reset machine with `k` bytes of a candidate held and these inputs to come. -/
def holding (cfg : Config) (bytes : Vector Byte 6) (k : Fin 6) (inputs : List StepInput) : State :=
  { State.resetOf cfg with buf := bytes, cursor := k, inputs := inputs }

/-- The reset machine holding the first five of six bytes, the sixth presented. -/
def completing (b0 b1 b2 b3 b4 b5 : Byte) : State :=
  holding Config.reference #v[b0, b1, b2, b3, b4, 0] 5 [StepInput.ofByte b5]

/-- The reset machine with these bytes presented, one a step. -/
def fed (bs : List Byte) : State := State.reset.present bs

/-! ## The checks refuse what is ill-formed -/

theorem test_wf_refuses_unknown_stop : (Instr.unknown 0x00 1 2).wf = false := by decide

theorem test_wf_refuses_unknown_play : (Instr.unknown 0x01 1 2).wf = false := by decide

theorem test_wf_accepts_unknown : (Instr.unknown 0x02 0 0).wf = true ∧ (Instr.unknown 0xFF 0 0).wf = true := by
  decide

theorem test_config_refuses_zero_period : Config.ofNats 0 65535 = none := by decide

theorem test_config_refuses_wide_period : Config.ofNats 65536 65535 = none := by decide

theorem test_config_refuses_zero_repeat : Config.ofNats 10000 0 = none := by decide

theorem test_noise_refuses_sync : (StreamItem.noise [0x00, 0x55]).wf = false := by decide

/-! ## Decoding: words written out from spec/30_encoding.md R70 and R73 -/

/-- V2: `55 00 00 00 00 AA`. -/
theorem test_decode_stop :
    decode [0b01010101, 0b00000000, 0b00000000, 0b00000000, 0b00000000, 0b10101010] = .ok (.stop 0 0, []) := by
  decide

/-- V1: `55 01 32 02 35 AA`. -/
theorem test_decode_play :
    decode [0b01010101, 0b00000001, 0b00110010, 0b00000010, 0b00110101, 0b10101010] = .ok (.play 50 2, []) := by
  decide

/-- V49: `55 02 00 00 02 AA`. -/
theorem test_decode_unknown :
    decode [0b01010101, 0b00000010, 0b00000000, 0b00000000, 0b00000010, 0b10101010] =
      .ok (.unknown 2 0 0, []) := by decide

/-- The hexadecimal word of R72 reads in arrival order. -/
theorem test_table_word :
    decodeTableWord 48 0x5501320235AA = some (.play 50 2) ∧ decodeTableWord 48 0x5500102030AA = some (.stop 16 32) ∧
      decodeTableWord 48 0x55FFFFFFFDAA = some (.unknown 255 255 255) ∧
      decodeTableWord 48 0x5501320234AA = none := by decide

theorem test_frame_word : (mkFrame 0x01 0x32 0x02).word = 0x5501320235AA := by decide

/-- Vectors V30 to V36 of the validator. -/
theorem test_validate :
    validate ⟨0x55, 0x01, 0xFF, 0xFF, 0xFF, 0xAA⟩ = .valid ∧
      validate ⟨0x55, 0x01, 0x32, 0x02, 0x34, 0xAA⟩ = .checksumMismatch ∧
      validate ⟨0x55, 0x01, 0x33, 0x01, 0x35, 0xAA⟩ = .valid ∧
      validate ⟨0x55, 0x01, 0x32, 0x02, 0x35, 0x00⟩ = .badTail ∧
      validate ⟨0x55, 0x01, 0x32, 0x02, 0x36, 0xAA⟩ = .checksumMismatch ∧
      validate ⟨0x55, 0x01, 0x32, 0x03, 0x35, 0xAA⟩ = .checksumMismatch ∧
      validate ⟨0x55, 0xFF, 0xFF, 0xFF, 0xFD, 0xAA⟩ = .valid := by decide

/-- The encodings of programs A and C, section 5 of the vectors. -/
theorem test_stream_bytes :
    streamBytes [.noise [0x00, 0x13], .play 80 20, .stop] =
        [0x00, 0x13, 0x55, 0x01, 0x50, 0x14, 0x65, 0xAA, 0x55, 0x00, 0x00, 0x00, 0x00, 0xAA] ∧
      streamBytes [.byte 0x55, .byte 0x01, .play 50 2] = [0x55, 0x01, 0x55, 0x01, 0x32, 0x02, 0x35, 0xAA] ∧
      streamBytes [.frame 0x55 0x01 0x32 0x02 0x99 0xAA, .cmd 7 1 2, .playf 200, .stopWith 0x10 0x20] =
        [0x55, 0x01, 0x32, 0x02, 0x99, 0xAA, 0x55, 0x07, 0x01, 0x02, 0x0A, 0xAA,
          0x55, 0x01, 0xC8, 0x00, 0xC9, 0xAA, 0x55, 0x00, 0x10, 0x20, 0x30, 0xAA] := by decide

/-! ## Arithmetic: the tables of section 4 of the vectors -/

theorem test_duty_ticks :
    dutyTicks (cfgOf 10000 65535) 85 = 8500 ∧ dutyTicks (cfgOf 9999 65535) 33 = 3299 ∧
      dutyTicks (cfgOf 999 65535) 1 = 9 ∧ dutyTicks (cfgOf 65535 65535) 99 = 64879 ∧
      dutyTicks (cfgOf 65535 65535) (dutyOf 150) = 65535 := by decide

theorem test_cycles :
    cyclesOf (cfgOf 10000 65535) (durationOf 255) = 1275 ∧ cyclesOf (cfgOf 193 65535) (durationOf 255) = 65535 ∧
      cyclesOf (cfgOf 194 65535) (durationOf 255) = 65385 ∧ cyclesOf (cfgOf 99 65535) (durationOf 131) = 65500 ∧
      cyclesOf (cfgOf 65535 65535) (durationOf 1) = 1 ∧ cyclesOf (cfgOf 1 65535) (durationOf 2) = 50000 := by
  decide

/-! ## The commands, one completion step each -/

/-- V1: play, at P = 10000. -/
theorem test_play_finite :
    answers (step (completing 0x55 0x01 0x32 0x02 0x35 0xAA)) (fun t =>
      t.out.directive == some (.start 5000 (.fixedCycles 10)) && t.dutyPercent == 50 && t.durationMs == 100 &&
        t.out.diagnostic == none && t.driver == .running 5000 (.fixedCycles 10)) = true := by decide +kernel

/-- V47: the upper clamp, P = 99; V45 shape: duration code 0 is "forever". -/
theorem test_play_clamped_and_forever :
    startOf (cfgOf 99 65535) 50 255 = .start 49 (.fixedCycles 65535) ∧
      startOf (cfgOf 10000 255) 50 255 = .start 5000 (.fixedCycles 255) ∧
      startOf (cfgOf 10000 65535) 200 0 = .start 10000 .loop := by decide +kernel

/-- V40: STOP ignores its operand bytes and leaves PlaybackState. -/
theorem test_stop :
    answers (step (completing 0x55 0x00 0x10 0x20 0x30 0xAA)) (fun t =>
      t.out.directive == some .stop && t.dutyPercent == 50 && t.durationMs == 10 && t.driver == .idle) = true := by
  decide

/-- V14: 0x55 at the command offset is an unknown command. -/
theorem test_unknown :
    answers (step (completing 0x55 0x55 0x00 0x00 0x55 0xAA)) (fun t =>
      t.out == ⟨some ⟨0x55, 0x55, 0, 0, 0x55, 0xAA⟩, none, some (.unknownCommand 0x55), some 0xAA⟩ &&
        t.dutyPercent == 50 && t.durationMs == 10) = true := by decide

/-- V51: a rejected PLAY keeps its PlaybackState and reports the directive. -/
theorem test_directive_failed :
    answers (step { completing 0x55 0x01 0x32 0x02 0x35 0xAA with inputs := [⟨some 0xAA, true, false⟩] }) (fun t =>
      t.out.directive == some (.start 5000 (.fixedCycles 10)) &&
        t.out.diagnostic == some (.directiveFailed (.start 5000 (.fixedCycles 10))) &&
        t.dutyPercent == 50 && t.durationMs == 100 && t.cursor == 0) = true := by decide +kernel

/-- V16: both checks fail, and the tail is reported. -/
theorem test_bad_tail_first :
    answers (step (completing 0x55 0x01 0x32 0x02 0x99 0xAB)) (fun t =>
      t.out == ⟨none, none, some (.badTail ⟨0x55, 0x01, 0x32, 0x02, 0x99, 0xAB⟩), some 0xAB⟩) = true := by decide

/-- V3: a wrong checksum. -/
theorem test_checksum_mismatch :
    answers (step (completing 0x55 0x01 0x32 0x02 0x99 0xAA)) (fun t =>
      t.out.diagnostic == some (.checksumMismatch ⟨0x55, 0x01, 0x32, 0x02, 0x99, 0xAA⟩) &&
        t.out.frame == none && t.durationMs == 10) = true := by decide

/-- V21: the stolen frame. The seventh byte completes the spurious candidate, the rest is dropped. -/
theorem test_stolen_frame :
    (outputsOf 9 (fed [0x12, 0x55, 0x00, 0x55, 0x01, 0x32, 0x02, 0x35, 0xAA])).map StepOutput.diagnostic =
      [none, none, none, none, none, none, some (.badTail ⟨0x55, 0x00, 0x55, 0x01, 0x32, 0x02⟩), none, none] := by
  decide

/-- The first instruction after reset, in the host's form. -/
theorem test_fetch_word :
    answers (step (State.reset.withFetchWord 48 0x5500000000AA)) (fun t =>
      t.out.directive == some .stop && t.cursor == 0) = true := by decide

/-- A finite waveform ends where the environment says so, an endless one does not (R168). -/
theorem test_driver_boundary :
    driverBoundary true (.running 1 (.fixedCycles 2)) = .idle ∧
      driverBoundary true (.running 1 .loop) = .running 1 .loop := by decide

/-! ## Witnesses: a concrete case that meets the hypotheses of each statement -/

theorem witness_DecodeOfEncode : (Instr.unknown 0x02 0xFF 0x55).wf = true ∧ (Instr.play 0 255).wf = true := by
  decide

theorem witness_EncodeOfDecode : decode [0x55, 0x01, 0x55, 0x55, 0xAB, 0xAA, 0x55] = .ok (.play 85 85, [0x55]) := by
  decide

/-- One frame for each of the four classes: `sync`, tail, checksum, valid. -/
theorem witness_WindowClasses :
    (0x54 : Byte) ≠ 0x55 ∧ (0xAB : Byte) ≠ 0xAA ∧
      (0x34 : Byte).toNat ≠ ((0x01 : Byte).toNat + (0x32 : Byte).toNat + (0x02 : Byte).toNat) % 256 ∧
      (0x35 : Byte).toNat = ((0x01 : Byte).toNat + (0x32 : Byte).toNat + (0x02 : Byte).toNat) % 256 := by decide

theorem witness_TableWordRoundTrip : (Instr.unknown 0xFF 0 0).wf = true := by decide

theorem witness_FetchWordRunsNext : (Instr.stop 0xFF 0xFF).wf = true := by decide

theorem witness_StopCompletes : State.reset.pwmErr = false := by decide

/-- Both clauses on `duration_code`, at their boundary. -/
theorem witness_PlayCompletes : State.reset.pwmErr = false ∧ (0 : Byte) = 0 ∧ (1 : Byte) ≠ 0 := by decide

theorem witness_UnknownCompletes :
    let s := completing 0x55 0x02 0x00 0x00 0x02 0xAA
    s.cursor = 5 ∧ s.currentInput.inByte = some 0xAA ∧ 2 ≤ s.buf[1].toNat ∧
      s.buf[4].toNat = (s.buf[1].toNat + s.buf[2].toNat + s.buf[3].toNat) % 256 := by decide

theorem witness_RepeatedPlayIsIdempotent : ∃ t u,
    exec (.play 50 2) State.reset = .next t ∧
      exec (.play 50 2) { t with out := .absent, pwmErr := true } = .next u := ⟨_, _, rfl, rfl⟩

/-- A step that issues a directive and one that issues none. -/
theorem witness_DirectiveFailureChangesNoCoreState :
    answers (step (completing 0x55 0x00 0x00 0x00 0x00 0xAA)) (fun t => t.out.directive == some .stop) = true ∧
      answers (step (fed [0x55])) (fun t => t.out.directive == none) = true := by decide

theorem witness_StepRunsDecodedInstruction :
    let s := completing 0x55 0x01 0x32 0x02 0x35 0xAA
    s.cursor = 5 ∧ s.currentInput.inByte = some 0xAA ∧ decode (heldFrame 0xAA s).bytes = .ok (.play 50 2, []) := by
  decide

theorem witness_DropStep :
    (fed [0x54]).cursor = 0 ∧ (fed [0x54]).currentInput.inByte = some 0x54 ∧ (0x54 : Byte) ≠ 0x55 ∧
      Noise [0x00, 0xAA, 0x56] ∧ Offers [0x00, 0xAA, 0x56] (fed [0x00, 0xAA, 0x56, 0x55]) := by decide

theorem witness_SyncStep : (fed [0x55]).cursor = 0 ∧ (fed [0x55]).currentInput.inByte = some 0x55 := by decide

/-- The first and the last cursor of the range. -/
theorem witness_AppendStep :
    let s := holding Config.reference #v[0x55, 0, 0, 0, 0, 0] 1 [StepInput.ofByte 0xAA]
    let t := holding Config.reference #v[0x55, 1, 2, 3, 0, 0] 4 [StepInput.ofByte 0x55]
    (1 ≤ s.cursor.val ∧ s.cursor.val ≤ 4 ∧ s.currentInput.inByte = some 0xAA) ∧
      (1 ≤ t.cursor.val ∧ t.cursor.val ≤ 4 ∧ t.currentInput.inByte = some 0x55) := by decide

theorem witness_CompleteStep :
    (completing 0x55 0x00 0x00 0x00 0x00 0xAA).cursor = 5 ∧
      (completing 0x55 0x00 0x00 0x00 0x00 0xAA).currentInput.inByte = some 0xAA := by decide

theorem witness_BadTailStep :
    (completing 0x55 0x01 0x32 0x02 0x35 0xAB).cursor = 5 ∧
      (completing 0x55 0x01 0x32 0x02 0x35 0xAB).currentInput.inByte = some 0xAB ∧ (0xAB : Byte) ≠ 0xAA := by decide

theorem witness_ChecksumMismatchStep :
    let s := completing 0x55 0x01 0x32 0x02 0x34 0xAA
    s.cursor = 5 ∧ s.currentInput.inByte = some 0xAA ∧
      s.buf[4].toNat ≠ (s.buf[1].toNat + s.buf[2].toNat + s.buf[3].toNat) % 256 := by decide

/-- Command bytes 0x00, 0x01, the boundary 0x02, and an invalid frame. -/
theorem witness_CommandByteSelects :
    let ok (s : State) : Prop := s.cursor = 5 ∧ s.currentInput.inByte = some 0xAA ∧
      s.buf[4].toNat = (s.buf[1].toNat + s.buf[2].toNat + s.buf[3].toNat) % 256
    (ok (completing 0x55 0x00 0 0 0x00 0xAA) ∧ (completing 0x55 0x00 0 0 0x00 0xAA).buf[1] = 0x00) ∧
      (ok (completing 0x55 0x01 0 0 0x01 0xAA) ∧ (completing 0x55 0x01 0 0 0x01 0xAA).buf[1] = 0x01) ∧
      (ok (completing 0x55 0x02 0 0 0x02 0xAA) ∧ 2 ≤ (completing 0x55 0x02 0 0 0x02 0xAA).buf[1].toNat) ∧
      validate (heldFrame 0xAB (completing 0x55 0x01 0 0 0x01 0xAB)) ≠ .valid := by decide

/-- A cursor below 5 and the cursor 5. -/
theorem witness_SyncByteInsideIsData :
    let s := holding Config.reference #v[0x55, 0, 0, 0, 0, 0] 1 [StepInput.ofByte 0x55]
    let t := completing 0x55 0x01 0x32 0x02 0x35 0x55
    (s.cursor ≠ 0 ∧ s.cursor ≠ 5 ∧ s.currentInput.inByte = some 0x55) ∧
      (t.cursor = 5 ∧ t.currentInput.inByte = some 0x55) := by decide

theorem witness_NoByteHoldsTheState :
    State.reset.currentInput.inByte = none ∧
      ({ State.reset with inputs := [⟨none, false, true⟩] } : State).currentInput.inByte = none := by decide

/-- A step of each kind: kept, advanced, wrapped. This serves every statement whose hypothesis is that a step answers
a next state. -/
theorem witness_CursorMoves :
    answers (step (fed [0x12])) (fun t => t.cursor == 0) = true ∧
      answers (step (fed [0x55])) (fun t => t.cursor == 1) = true ∧
      answers (step (completing 0x55 0x00 0x00 0x00 0x00 0xAA)) (fun t => t.cursor == 0) = true := by decide

theorem witness_EchoIsTheInputByte : ∃ t, step (fed [0x12]) = .next t := ⟨_, rfl⟩

theorem witness_OutputsOnlyAtCompletion :
    answers (step (completing 0x55 0x02 0x00 0x00 0x02 0xAA)) (fun t => decide (¬ t.out.Quiet)) = true := by decide

theorem witness_DirectiveExactlyForStopAndPlay :
    answers (step (completing 0x55 0x01 0x00 0x00 0x01 0xAA)) (fun t => t.out.directive.isSome) = true := by decide

theorem witness_OnlyPlayWritesPlaybackState :
    answers (step (completing 0x55 0x01 0x00 0x00 0x01 0xAA)) (fun t => t.dutyPercent != 50) = true := by decide

theorem witness_StepKeepsConfiguration : ∃ t, step (fed [0x55, 0x01]) = .next t := ⟨_, rfl⟩

theorem witness_StepKeepsInvariant :
    Inv (completing 0x55 0x01 0xFF 0xFF 0xFF 0xAA) ∧
      ∃ t, step (completing 0x55 0x01 0xFF 0xFF 0xFF 0xAA) = .next t := ⟨by decide, _, rfl⟩

/-- The lowest and the highest byte a cursor leaves stale. -/
theorem witness_StaleBufferIsUnobservable :
    State.reset.cursor.val ≤ 0 ∧ (completing 0x55 0 0 0 0 0xAA).cursor.val ≤ 5 := by decide

theorem witness_SingleByteChangeIsCaught :
    validate (mkFrame 0x01 0x32 0x02) = .valid ∧ (0x00 : Byte) ≠ (mkFrame 0x01 0x32 0x02).command ∧
      (0x33 : Byte) ≠ (mkFrame 0x01 0x32 0x02).intensity ∧ (0x03 : Byte) ≠ (mkFrame 0x01 0x32 0x02).durationCode ∧
      (0x34 : Byte) ≠ (mkFrame 0x01 0x32 0x02).checksum ∧ (0x00 : Byte) ≠ (mkFrame 0x01 0x32 0x02).tail := by decide

theorem witness_OperandValues : (0 : Byte) = 0 ∧ (1 : Byte) ≠ 0 := by decide

theorem witness_DutyTicksExact :
    100 ≤ 100 ∧ (cfgOf 10000 65535).pwmPeriodTicks % 100 = 0 ∧ (cfgOf 65535 65535).pwmPeriodTicks = 65535 ∧
      (cfgOf 999 65535).pwmPeriodTicks = 999 ∧ (cfgOf 10000 65535).pwmPeriodTicks = 10000 := by decide

/-- The clamp idle, the clamp acting, and the boundary period. -/
theorem witness_CycleCountBounds :
    (1 : Byte) ≠ 0 ∧ cyclesRaw (cfgOf 10000 65535) (durationOf 1) ≤ 65535 ∧
      65535 < cyclesRaw (cfgOf 193 65535) (durationOf 255) ∧ 194 ≤ (cfgOf 194 65535).pwmPeriodTicks := by decide

theorem witness_CandidateIsTheBytesDelivered :
    (fed [0x55, 0x55, 0xAA, 0, 1, 2]).cursor = 0 ∧
      Offers (CommandFrame.bytes ⟨0x55, 0x55, 0xAA, 0, 1, 2⟩) (fed [0x55, 0x55, 0xAA, 0, 1, 2]) := by decide

theorem witness_ResyncAfterNoise :
    (fed ([0x00, 0xFF] ++ encode (.play 150 1))).cursor = 0 ∧ Noise [0x00, 0xFF] ∧ (Instr.play 150 1).wf = true ∧
      Offers ([0x00, 0xFF] ++ encode (.play 150 1)) (fed ([0x00, 0xFF] ++ encode (.play 150 1))) := by decide

/-- A bad tail, a bad checksum, and a 0x55 right behind. -/
theorem witness_RejectedFrameLeavesCleanDecoder :
    let s := holding Config.reference #v[0x55, 1, 2, 3, 7, 0] 5 [StepInput.ofByte 0xAA, StepInput.ofByte 0x55]
    (s.cursor = 5 ∧ s.currentInput.inByte = some 0xAA ∧
        s.buf[4].toNat ≠ (s.buf[1].toNat + s.buf[2].toNat + s.buf[3].toNat) % 256) ∧
      (0xAB : Byte) ≠ 0xAA ∧
      answers (step s) (fun t => t.currentInput.inByte == some 0x55) = true := by decide

/-- Four bytes after the first, with pauses between: the bound 5 is met exactly. -/
theorem witness_CandidateHasNoTimeout :
    let s := holding Config.reference #v[0x55, 0, 0, 0, 0, 0] 1
      [.none, .ofByte 1, .none, .ofByte 2, .ofByte 3, .none, .ofByte 4, .none]
    s.cursor ≠ 0 ∧ s.cursor.val + ((s.inputs.take 8).filter (fun inp => inp.inByte.isSome)).length ≤ 5 := by decide

theorem witness_FramesAreSixStepsApart :
    answers (step (completing 0x55 0x02 0x00 0x00 0x02 0xAA)) (fun t => t.out.frame.isSome) = true := by decide

theorem witness_FiveByteFlush :
    Noise [0, 0, 0, 0, 0] ∧ Offers [0, 0, 0, 0, 0] (fed [0, 0, 0, 0, 0]) ∧
      ∀ b ∈ ([0, 0, 0, 0, 0] : List Byte), b ≠ 0xAA := by decide

theorem witness_ChunksDoNotMatter : State.reset.inputs = [] := by decide

/-- Both directives, accepted. -/
theorem witness_DriverTakesTheDirective :
    (completing 0x55 0x00 0x00 0x00 0x00 0xAA).currentInput.pwmErr = false ∧
      answers (step (completing 0x55 0x00 0x00 0x00 0x00 0xAA)) (fun t => t.out.directive == some .stop) = true ∧
      answers (step (completing 0x55 0x01 0x32 0x00 0x33 0xAA))
        (fun t => t.out.directive == some (.start 5000 .loop)) = true := by decide

/-- A driver in each of its states, in a step without a directive. -/
theorem witness_DriverEndsOnlyFiniteWaveforms :
    answers (step { fed [0x12] with driver := .running 1 .loop }) (fun t => t.out.directive == none) = true ∧
      answers (step { fed [0x12] with driver := .running 1 (.fixedCycles 2) })
        (fun t => t.out.directive == none) = true ∧
      answers (step (fed [0x12])) (fun t => t.out.directive == none) = true := by decide

/-- A state for each diagnostic and each directive on the ports. -/
theorem witness_PortCodes :
    answers (step (fed [0x12])) (fun t => t.out.diagnostic == none && t.out.directive == none) = true ∧
      answers (step (completing 0x55 0 0 0 0 0)) (fun t => portDiagCode t == 1) = true ∧
      answers (step (completing 0x55 0 0 0 1 0xAA)) (fun t => portDiagCode t == 2) = true ∧
      answers (step (completing 0x55 2 0 0 2 0xAA)) (fun t => portDiagCode t == 3) = true ∧
      answers (step { completing 0x55 0 0 0 0 0xAA with inputs := [⟨some 0xAA, true, false⟩] })
        (fun t => portDiagCode t == 4 && portDirKind t == 2) = true ∧
      answers (step (completing 0x55 1 50 0 51 0xAA)) (fun t => portDirKind t == 1 && portDirLoop t == some true) =
        true ∧
      answers (step (completing 0x55 1 50 2 53 0xAA)) (fun t => portDirCycleCount t == some 10) = true := by decide

end Sys2Proof.Tests
end

section
/-! What one step can do, said once as an inversion: the model's `judgeCandidate` and `step` answer `t` exactly where a
named case relates `t` to the state before. -/

namespace Sys2Proof.Machine

/-! ## The state that holds a byte just stored -/

/-- The state in which a step has taken its input, echoed the byte `b` and stored it. -/
def storedState (b : Byte) (s : State) : State := (s.beginStep.echoByte b).append b

section StoredState

variable (b : Byte) (s : State)

@[simp] theorem storedState_cfg : (storedState b s).cfg = s.cfg := rfl

@[simp] theorem storedState_buf :
    (storedState b s).buf = s.buf.set s.cursor.val b s.cursor.isLt := rfl

@[simp] theorem storedState_cursor : (storedState b s).cursor = s.cursor + 1 := rfl

@[simp] theorem storedState_dutyPercent : (storedState b s).dutyPercent = s.dutyPercent := rfl

@[simp] theorem storedState_durationMs : (storedState b s).durationMs = s.durationMs := rfl

@[simp] theorem storedState_driver :
    (storedState b s).driver = driverBoundary s.currentInput.cyclesExhausted s.driver := rfl

@[simp] theorem storedState_pwmErr : (storedState b s).pwmErr = s.currentInput.pwmErr := rfl

@[simp] theorem storedState_inputs : (storedState b s).inputs = s.inputs.tail := rfl

@[simp] theorem storedState_out : (storedState b s).out = ⟨none, none, none, some b⟩ := rfl

@[simp] theorem storedState_freeCount : (storedState b s).freeCount = s.freeCount := rfl

end StoredState

theorem storedState_candidate {b : Byte} {s : State} (full : s.cursor = 5) :
    (storedState b s).candidate = heldFrame b s :=
  State.append_candidate (s := s.beginStep.echoByte b) b full

/-- Below 5 the cursor's addition in `Fin 6` does not wrap. -/
theorem cursor_add_one_val {c : Fin 6} (h : c ≠ 5) : (c + 1).val = c.val + 1 := by
  rw [Fin.val_add_one]
  exact if_neg h

/-! ## Judging a candidate -/

/-- The five things judging the candidate `f` can do (spec/41_checksum_validator.md R112 to R114,
spec/42_playback_scheduler.md R120). -/
inductive JudgeCase (f : CommandFrame) (s : State) : State → Prop where
  | badTail (verdict : validate f = .badTail) : JudgeCase f s (s.raiseDiag (.badTail f))
  | checksumMismatch (verdict : validate f = .checksumMismatch) :
      JudgeCase f s (s.raiseDiag (.checksumMismatch f))
  | stop (valid : validate f = .valid) (command : f.command = cmdStop) :
      JudgeCase f s ((s.emitFrame f).issue .stop)
  | play (valid : validate f = .valid) (command : f.command = cmdPlay) :
      JudgeCase f s
        (((s.emitFrame f).setPlayback (dutyOf f.intensity) (durationOf f.durationCode)).issue
          (startOf s.cfg f.intensity f.durationCode))
  | unknown (valid : validate f = .valid) (command : 2 ≤ f.command.toNat) :
      JudgeCase f s ((s.emitFrame f).raiseDiag (.unknownCommand f.command))

theorem instrOf_of_two_le {f : CommandFrame} (h : 2 ≤ f.command.toNat) :
    instrOf f = .unknown f.command f.intensity f.durationCode := by
  refine instrOf_of_unknown ?_ ?_ <;> intro hc <;> rw [hc] at h <;> exact absurd h (by decide)

/-- The model answers what a case says. -/
theorem JudgeCase.judgeCandidate_eq {f : CommandFrame} {s t : State} (h : JudgeCase f s t) :
    judgeCandidate f s = .next t := by
  cases h with
  | badTail verdict => simp [judgeCandidate, verdict]
  | checksumMismatch verdict => simp [judgeCandidate, verdict]
  | stop valid command => simp [judgeCandidate, valid, applyFrame, instrOf_of_stop command]
  | play valid command => simp [judgeCandidate, valid, applyFrame, instrOf_of_play command]
  | unknown valid command => simp [judgeCandidate, valid, applyFrame, instrOf_of_two_le command]

/-- Every candidate falls in a case. -/
theorem exists_judgeCase (f : CommandFrame) (s : State) : ∃ t, JudgeCase f s t := by
  cases verdict : validate f with
  | badTail => exact ⟨_, .badTail verdict⟩
  | checksumMismatch => exact ⟨_, .checksumMismatch verdict⟩
  | valid =>
    obtain command | command | command := command_cases f.command
    · exact ⟨_, .stop verdict command⟩
    · exact ⟨_, .play verdict command⟩
    · exact ⟨_, .unknown verdict command⟩

theorem judgeCandidate_eq_next_iff {f : CommandFrame} {s t : State} :
    judgeCandidate f s = .next t ↔ JudgeCase f s t := by
  refine ⟨fun h => ?_, JudgeCase.judgeCandidate_eq⟩
  obtain ⟨u, hu⟩ := exists_judgeCase f s
  cases hu.judgeCandidate_eq.symm.trans h
  exact hu

/-! ## A whole step -/

/-- The four things a step can do: no byte presented, the byte dropped (spec/40_frame_decoder.md R91), stored (R92,
R93), or stored as the sixth byte and the candidate judged (R94). -/
inductive StepCase (s : State) : State → Prop where
  | held (noByte : s.currentInput.inByte = none) : StepCase s s.beginStep
  | dropped (b : Byte) (byte : s.currentInput.inByte = some b) (hunting : s.cursor = 0)
      (noise : b ≠ syncByte) : StepCase s (s.beginStep.echoByte b)
  | stored (b : Byte) (byte : s.currentInput.inByte = some b)
      (accepts : (s.cursor = 0 ∧ b = syncByte) ∨ (s.cursor ≠ 0 ∧ s.cursor ≠ 5)) :
      StepCase s (storedState b s)
  | completed (b : Byte) (t : State) (byte : s.currentInput.inByte = some b) (full : s.cursor = 5)
      (judged : JudgeCase (heldFrame b s) (storedState b s) t) : StepCase s t

/-- The model answers what a case says. -/
theorem StepCase.step_eq {s t : State} (h : StepCase s t) : step s = .next t := by
  cases h with
  | held noByte => exact step_of_none noByte
  | dropped b byte hunting noise =>
    simp [step_of_some byte, feed, (feedCase_eq_drop_iff s.cursor b).2 ⟨hunting, noise⟩, feedDrop]
  | stored b byte accepts =>
    rw [step_of_some byte]
    obtain sync | inside := accepts
    · simp [feed, (feedCase_eq_sync_iff s.cursor b).2 sync, feedSync, storedState]
    · simp [feed, (feedCase_eq_append_iff s.cursor b).2 inside, feedAppend, storedState]
  | completed b t byte full judged =>
    calc step s = feed b s.beginStep := step_of_some byte
      _ = judgeCandidate (storedState b s).candidate (storedState b s) := by
        simp [feed, (feedCase_eq_complete_iff s.cursor b).2 full, feedComplete, storedState]
      _ = .next t := by rw [storedState_candidate full, judged.judgeCandidate_eq]

/-- Every state falls in a case. -/
theorem exists_stepCase (s : State) : ∃ t, StepCase s t := by
  cases byte : s.currentInput.inByte with
  | none => exact ⟨_, .held byte⟩
  | some b =>
    by_cases hunting : s.cursor = 0
    · by_cases sync : b = syncByte
      · exact ⟨_, .stored b byte (.inl ⟨hunting, sync⟩)⟩
      · exact ⟨_, .dropped b byte hunting sync⟩
    · by_cases full : s.cursor = 5
      · obtain ⟨t, judged⟩ := exists_judgeCase (heldFrame b s) (storedState b s)
        exact ⟨t, .completed b t byte full judged⟩
      · exact ⟨_, .stored b byte (.inr ⟨hunting, full⟩)⟩

/-- The inversion of a step. -/
theorem step_eq_next_iff {s t : State} : step s = .next t ↔ StepCase s t := by
  refine ⟨fun h => ?_, StepCase.step_eq⟩
  obtain ⟨u, hu⟩ := exists_stepCase s
  cases hu.step_eq.symm.trans h
  exact hu

/-! ## What judging leaves alone -/

/-- `t` has the configuration, the decoder's registers and the input ports of `s`. -/
structure DecoderKept (s t : State) : Prop where
  cfg : t.cfg = s.cfg
  buf : t.buf = s.buf
  cursor : t.cursor = s.cursor
  inputs : t.inputs = s.inputs
  pwmErr : t.pwmErr = s.pwmErr

theorem JudgeCase.decoderKept {f : CommandFrame} {s t : State} (h : JudgeCase f s t) :
    DecoderKept s t := by
  cases h <;> exact ⟨rfl, rfl, rfl, rfl, rfl⟩

/-- Judging draws a free value exactly where it issues a directive that is rejected. -/
theorem JudgeCase.freeCount {f : CommandFrame} {s t : State} (h : JudgeCase f s t)
    (silent : s.out.directive = none) :
    t.freeCount = s.freeCount + (if t.out.directive.isSome ∧ s.pwmErr = true then 1 else 0) := by
  cases h with
  | badTail | checksumMismatch | unknown => simp [silent]
  | stop | play => by_cases rejected : s.pwmErr = true <;> simp [rejected]

end Sys2Proof.Machine
end

section
/-! The statements about reset, and about what a step does to the cursor, PlaybackState and the configuration. -/

namespace Sys2Proof.Machine

/-! ## Reset and the step without a byte -/

/-- Settles O32: the fields of `State.resetOf`, read off. -/
theorem resetState : Obligations.ResetState :=
  ⟨fun _ => ⟨rfl, rfl, rfl, rfl, rfl⟩, rfl⟩

theorem resetOf_inv (cfg : Config) : Inv (State.resetOf cfg) := by
  obtain ⟨_, cursor, duty, duration, _⟩ := resetState.1 cfg
  exact ⟨fun inside => absurd cursor inside, by omega, .inl duration⟩

/-- Settles O4. -/
theorem resetHasInvariant : Obligations.ResetHasInvariant :=
  ⟨resetOf_inv, resetOf_inv Config.reference⟩

/-- Settles O25: the case `held` of a step, whose state is `passedState` with no output. -/
theorem noByteHoldsTheState : Obligations.NoByteHoldsTheState := fun _ noByte =>
  (StepCase.held noByte).step_eq

/-! ## The cursor -/

theorem storedState_cursor_of_full {b : Byte} {s : State} (full : s.cursor = 5) :
    (storedState b s).cursor = 0 := by
  simp [full]

/-- Settles O26, one disjunct per kind of step. -/
theorem cursorMoves : Obligations.CursorMoves := by
  intro s t h
  cases step_eq_next_iff.1 h with
  | held noByte => exact .inl ⟨.inl noByte, rfl⟩
  | dropped b byte hunting noise => exact .inl ⟨.inr ⟨b, byte, hunting, noise⟩, rfl⟩
  | stored b byte accepts =>
    have sync : s.cursor = 0 → b = 0x55 := fun hunting =>
      accepts.elim (·.2) fun inside => absurd hunting inside.1
    have notFull : s.cursor ≠ 5 :=
      accepts.elim (fun hunting => by simp [hunting.1]) (·.2)
    exact .inr (.inl ⟨⟨b, byte, sync, notFull⟩, cursor_add_one_val notFull⟩)
  | completed b t byte full judged =>
    have wraps : t.cursor = 0 := judged.decoderKept.cursor.trans (storedState_cursor_of_full full)
    exact .inr (.inr ⟨by simp [byte], full, wraps⟩)

/-! ## PlaybackState -/

theorem toNat_ofNat_dutyOf (i : Byte) : (BitVec.ofNat 8 (dutyOf i)).toNat = min i.toNat 100 := by
  simp only [dutyOf, dutyMax, BitVec.toNat_ofNat]
  omega

theorem durationOf_eq_mul (d : Byte) : durationOf d = d.toNat * 50 := by
  unfold durationOf
  split
  · next zero => simp [zero]
  · rfl

theorem toNat_ofNat_durationOf (d : Byte) :
    (BitVec.ofNat 16 (durationOf d)).toNat = d.toNat * 50 := by
  have := d.isLt
  rw [durationOf_eq_mul, BitVec.toNat_ofNat]
  omega

/-- Judging a candidate writes PlaybackState only if it is a valid PLAY. -/
theorem JudgeCase.playback {f : CommandFrame} {s t : State} (h : JudgeCase f s t) :
    (t.dutyPercent = s.dutyPercent ∧ t.durationMs = s.durationMs) ∨
    (validate f = .valid ∧ f.command = cmdPlay ∧
      t.dutyPercent.toNat = min f.intensity.toNat 100 ∧
      t.durationMs.toNat = f.durationCode.toNat * 50) := by
  cases h with
  | badTail | checksumMismatch | stop | unknown => exact .inl ⟨rfl, rfl⟩
  | play valid command =>
    exact .inr ⟨valid, command, toNat_ofNat_dutyOf _, toNat_ofNat_durationOf _⟩

/-- Settles O30: only judging a candidate can write PlaybackState. -/
theorem onlyPlayWritesPlaybackState : Obligations.OnlyPlayWritesPlaybackState := by
  intro s t h
  cases step_eq_next_iff.1 h with
  | held | dropped | stored => exact .inl ⟨rfl, rfl⟩
  | completed b t byte full judged =>
    obtain kept | ⟨valid, command, duty, duration⟩ := judged.playback
    · exact .inl kept
    · exact .inr ⟨full, b, byte, valid, command, duty, duration⟩

/-! ## The configuration and the model's own fields -/

/-- Settles O31: judging keeps all but the count of free values, and the other steps issue no directive. -/
theorem stepKeepsConfiguration : Obligations.StepKeepsConfiguration := by
  intro s t h
  cases step_eq_next_iff.1 h with
  | held | dropped | stored => exact ⟨rfl, rfl, rfl, by simp [StepOutput.absent]⟩
  | completed b t byte full judged =>
    have kept := judged.decoderKept
    exact ⟨kept.cfg, kept.inputs, kept.pwmErr, judged.freeCount rfl⟩

/-! ## The invariant -/

/-- A byte stored at the cursor leaves 0x55 in front: the first byte stored is 0x55, and a later one does not overwrite
it. -/
theorem storedState_buf_zero {b : Byte} {s : State} (front : s.cursor ≠ 0 → s.buf[0] = syncByte)
    (accepts : (s.cursor = 0 ∧ b = syncByte) ∨ (s.cursor ≠ 0 ∧ s.cursor ≠ 5)) :
    (storedState b s).buf[0] = syncByte := by
  obtain ⟨hunting, sync⟩ | ⟨inside, -⟩ := accepts
  · simp [hunting, sync]
  · have : s.cursor.val ≠ 0 := fun h => inside (Fin.ext h)
    simp [this, front inside]

/-- A candidate in progress begins with 0x55 after a step if it did before (spec/10_state.md R23 b). -/
theorem step_keeps_front {s t : State} (front : s.cursor ≠ 0 → s.buf[0] = syncByte)
    (h : step s = .next t) : t.cursor ≠ 0 → t.buf[0] = syncByte := by
  cases step_eq_next_iff.1 h with
  | held | dropped => exact front
  | stored b byte accepts => exact fun _ => storedState_buf_zero front accepts
  | completed b t byte full judged =>
    have wraps : t.cursor = 0 := judged.decoderKept.cursor.trans (storedState_cursor_of_full full)
    exact fun inside => absurd wraps inside

/-- Settles O3: the clause on the buffer by the cases of a step, the clauses on PlaybackState because a step keeps it or
stores the operands of a PLAY. -/
theorem stepKeepsInvariant : Obligations.StepKeepsInvariant := by
  intro s t ⟨front, duty, duration⟩ h
  refine ⟨step_keeps_front front h, ?_⟩
  obtain ⟨sameDuty, sameDuration⟩ | ⟨-, b, -, -, -, newDuty, newDuration⟩ :=
    onlyPlayWritesPlaybackState s t h
  · rw [sameDuty, sameDuration]
    exact ⟨duty, duration⟩
  · have := s.buf[3].isLt
    exact ⟨by omega, .inr (by omega)⟩

end Sys2Proof.Machine
end

section
/-! Noninterference: two states that agree on the configuration, the inputs, the cursor and the bytes below it have the
same outputs for ever. Neither PlaybackState nor a byte at or above the cursor is among what must agree. -/

namespace Sys2Proof.Machine

/-- `s` and `s'` agree on everything an output can depend on. -/
structure LooksAlike (s s' : State) : Prop where
  cfg : s.cfg = s'.cfg
  inputs : s.inputs = s'.inputs
  cursor : s.cursor = s'.cursor
  pwmErr : s.pwmErr = s'.pwmErr
  out : s.out = s'.out
  below : ∀ (i : Nat) (hi : i < 6), i < s.cursor.val → s.buf[i] = s'.buf[i]

/-! ## Each operation on the state keeps the agreement -/

section Operations

variable {s s' : State}

theorem LooksAlike.currentInput (h : LooksAlike s s') : s.currentInput = s'.currentInput := by
  simp [State.currentInput, h.inputs]

theorem LooksAlike.beginStep (h : LooksAlike s s') : LooksAlike s.beginStep s'.beginStep where
  cfg := h.cfg
  inputs := by simp [h.inputs]
  cursor := h.cursor
  pwmErr := by simp [h.currentInput]
  out := rfl
  below := h.below

theorem LooksAlike.echoByte (h : LooksAlike s s') (b : Byte) :
    LooksAlike (s.echoByte b) (s'.echoByte b) :=
  { h with out := by simp [h.out] }

theorem LooksAlike.emitFrame (h : LooksAlike s s') (f : CommandFrame) :
    LooksAlike (s.emitFrame f) (s'.emitFrame f) :=
  { h with out := by simp [h.out] }

theorem LooksAlike.raiseDiag (h : LooksAlike s s') (d : Diagnostic) :
    LooksAlike (s.raiseDiag d) (s'.raiseDiag d) :=
  { h with out := by simp [h.out] }

theorem LooksAlike.issue (h : LooksAlike s s') (d : PlaybackDirective) :
    LooksAlike (s.issue d) (s'.issue d) :=
  { h with out := by simp [h.out, h.pwmErr] }

theorem LooksAlike.setPlayback (h : LooksAlike s s') (duty durMs : Nat) :
    LooksAlike (s.setPlayback duty durMs) (s'.setPlayback duty durMs) :=
  { h with }

/-- The byte stored is the same one at the same place; where the cursor wraps to 0, nothing stays below it. -/
theorem LooksAlike.append (h : LooksAlike s s') (b : Byte) :
    LooksAlike (s.append b) (s'.append b) where
  cfg := h.cfg
  inputs := h.inputs
  cursor := by simp [h.cursor]
  pwmErr := h.pwmErr
  out := h.out
  below i hi lt := by
    have notFull : s.cursor ≠ 5 := by
      rintro full
      simp [full] at lt
    rw [State.append_cursor, cursor_add_one_val notFull] at lt
    simp only [State.append_buf, Vector.getElem_set, ← h.cursor]
    split
    · rfl
    · exact h.below i hi (by omega)

theorem LooksAlike.storedState (h : LooksAlike s s') (b : Byte) :
    LooksAlike (storedState b s) (storedState b s') :=
  (h.beginStep.echoByte b).append b

/-- All five bytes held are below a cursor of 5. -/
theorem LooksAlike.heldFrame (h : LooksAlike s s') (full : s.cursor = 5) (b : Byte) :
    heldFrame b s = heldFrame b s' := by
  have held (i : Nat) (hi : i < 5) : s.buf[i] = s'.buf[i] := h.below i (by omega) (by simpa [full] using hi)
  simp [Machine.heldFrame, held]

end Operations

/-! ## Steps and runs -/

/-- States that look alike judge a candidate alike. -/
theorem LooksAlike.judgeCase {f : CommandFrame} {s s' t : State} (h : LooksAlike s s')
    (judged : JudgeCase f s t) : ∃ t', JudgeCase f s' t' ∧ LooksAlike t t' := by
  cases judged with
  | badTail verdict => exact ⟨_, .badTail verdict, h.raiseDiag _⟩
  | checksumMismatch verdict => exact ⟨_, .checksumMismatch verdict, h.raiseDiag _⟩
  | stop valid command => exact ⟨_, .stop valid command, (h.emitFrame f).issue _⟩
  | play valid command =>
    exact ⟨_, .play valid command, h.cfg ▸ ((h.emitFrame f).setPlayback _ _).issue _⟩
  | unknown valid command => exact ⟨_, .unknown valid command, (h.emitFrame f).raiseDiag _⟩

/-- States that look alike step to states that look alike. -/
theorem LooksAlike.stepCase {s s' t : State} (h : LooksAlike s s') (stepped : StepCase s t) :
    ∃ t', StepCase s' t' ∧ LooksAlike t t' := by
  have input := h.currentInput
  cases stepped with
  | held noByte => exact ⟨_, .held (input ▸ noByte), h.beginStep⟩
  | dropped b byte hunting noise =>
    exact ⟨_, .dropped b (input ▸ byte) (h.cursor ▸ hunting) noise, h.beginStep.echoByte b⟩
  | stored b byte accepts =>
    exact ⟨_, .stored b (input ▸ byte) (h.cursor ▸ accepts), h.storedState b⟩
  | completed b t byte full judged =>
    obtain ⟨t', judged', alike⟩ := (h.storedState b).judgeCase judged
    rw [h.heldFrame full] at judged'
    exact ⟨t', .completed b t' (input ▸ byte) (h.cursor ▸ full) judged', alike⟩

theorem outputsOf_succ {s t : State} (h : step s = .next t) (n : Nat) :
    outputsOf (n + 1) s = t.out :: outputsOf n t := by
  simp [outputsOf, h]

theorem LooksAlike.outputsOf_eq {s s' : State} (h : LooksAlike s s') (n : Nat) :
    outputsOf n s = outputsOf n s' := by
  induction n generalizing s s' with
  | zero => rfl
  | succ n ih =>
    obtain ⟨t, stepped⟩ := exists_stepCase s
    obtain ⟨t', stepped', alike⟩ := h.stepCase stepped
    rw [outputsOf_succ stepped.step_eq, outputsOf_succ stepped'.step_eq, alike.out, ih alike]

theorem looksAlike_of_stale_byte (s : State) {k : Nat} (hk : k < 6) (v : Byte)
    (stale : s.cursor.val ≤ k) :
    LooksAlike { s with buf := s.buf.set k v hk } s where
  cfg := rfl
  inputs := rfl
  cursor := rfl
  pwmErr := rfl
  out := rfl
  below _ hi lt := Vector.getElem_set_ne hk hi (Nat.ne_of_gt (Nat.lt_of_lt_of_le lt stale))

theorem looksAlike_of_playback (s : State) (x : BitVec 8) (y : BitVec 16) :
    LooksAlike { s with dutyPercent := x, durationMs := y } s :=
  ⟨rfl, rfl, rfl, rfl, rfl, fun _ _ _ => rfl⟩

/-- Settles O34: a byte at or above the cursor is not among the bytes below it. -/
theorem staleBufferIsUnobservable : Obligations.StaleBufferIsUnobservable :=
  fun n s _ hk v stale => (looksAlike_of_stale_byte s hk v stale).outputsOf_eq n

/-- Settles O35: looking alike says nothing of PlaybackState. -/
theorem playbackStateIsUnobservable : Obligations.PlaybackStateIsUnobservable :=
  fun n s x y => (looksAlike_of_playback s x y).outputsOf_eq n

end Sys2Proof.Machine
end

section
/-! The completion step of a valid candidate runs the frame's instruction (spec/20_memory.md R56, R59), and a frame
placed by `State.withFetchWord` is such a candidate. -/

namespace Sys2Proof

/-! ## A frame among its bytes and in its 48-bit word -/

/-- The six bytes of a frame decode to what the frame decodes to, where the first is 0x55 and nothing follows. -/
theorem decode_bytes_eq_ok_iff (f : CommandFrame) (i : Instr) :
    decode f.bytes = .ok (i, []) ↔ f.sync = syncByte ∧ decodeFrame f = .ok i := by
  obtain ⟨b0, b1, b2, b3, b4, b5⟩ := f
  by_cases sync : b0 = syncByte
  · cases result : decodeFrame ⟨b0, b1, b2, b3, b4, b5⟩ <;>
      simp_all [CommandFrame.bytes, decode]
  · simp [CommandFrame.bytes, decode, sync]

/-- The five bytes of a frame before its tail. -/
def CommandFrame.beforeTail (f : CommandFrame) : List Byte :=
  [f.sync, f.command, f.intensity, f.durationCode, f.checksum]

theorem CommandFrame.bytes_eq_beforeTail_append (f : CommandFrame) :
    f.bytes = f.beforeTail ++ [f.tail] := rfl

theorem CommandFrame.beforeTail_length (f : CommandFrame) : f.beforeTail.length = 5 := rfl

/-- The byte at an offset is a slice of the word (spec/30_encoding.md R72). -/
theorem wordByte_toNat (w : BitVec 48) (offset : Nat) :
    wordByte w.toNat offset = w.extractLsb' (8 * (5 - offset)) 8 := by
  simp [wordByte, BitVec.extractLsb', Nat.shiftRight_eq_div_pow]

/-- Reading the word of a frame gives back the frame: each bit of a slice comes from one of the six bytes appended. -/
theorem frameOfWord_word (f : CommandFrame) : frameOfWord f.word.toNat = f := by
  simp only [frameOfWord, wordByte_toNat, CommandFrame.word]
  congr 1 <;> ext i hi <;> simp only [BitVec.getElem_extractLsb'] <;> grind

/-- The opcode map takes the frame of a well-formed command back to it (spec/30_encoding.md R74). -/
theorem instrOf_frame {i : Instr} (wf : i.wf = true) : instrOf i.frame = i := by
  cases i with
  | stop a d => exact instrOf_of_stop rfl
  | play a d => exact instrOf_of_play rfl
  | unknown c a d => exact Machine.instrOf_of_two_le (of_decide_eq_true wf)

theorem validate_frame (i : Instr) : validate i.frame = .valid := by
  cases i with
  | stop a d => exact Laws.FrameValid.stop a d
  | play a d => exact Laws.FrameValid.play a d
  | unknown c a d => exact Laws.FrameValid.unknown c a d

theorem frame_tail (i : Instr) : i.frame.tail = 0xAA := by
  cases i <;> rfl

namespace Machine

/-! ## The completion step -/

/-- A step at cursor 5 judges the candidate its byte completes (spec/40_frame_decoder.md R94). -/
theorem step_of_full {s : State} {b : Byte} (full : s.cursor = 5)
    (byte : s.currentInput.inByte = some b) :
    step s = judgeCandidate (heldFrame b s) (storedState b s) := by
  obtain ⟨t, judged⟩ := exists_judgeCase (heldFrame b s) (storedState b s)
  rw [judged.judgeCandidate_eq, (StepCase.completed b t byte full judged).step_eq]

/-- The scheduler runs where the byte was stored at cursor 5 and the frame emitted. -/
theorem storedState_emitFrame {s : State} (b : Byte) (full : s.cursor = 5) :
    (storedState b s).emitFrame (heldFrame b s) = completedState b s := by
  simp [storedState, completedState, State.emitFrame, State.append, State.echoByte, State.beginStep,
    StepOutput.absent, full]

/-- A valid candidate runs: the completion step is `exec` of its instruction in the completed state. -/
theorem step_of_valid {s : State} {b : Byte} (full : s.cursor = 5)
    (byte : s.currentInput.inByte = some b) (valid : validate (heldFrame b s) = .valid) :
    step s = exec (instrOf (heldFrame b s)) (completedState b s) := by
  rw [step_of_full full byte, ← storedState_emitFrame b full]
  simp [judgeCandidate, valid, applyFrame]

/-- Settles O5: the bytes decode only if the candidate is valid. -/
theorem stepRunsDecodedInstruction : Obligations.StepRunsDecodedInstruction := by
  intro s b i full byte decodes
  obtain ⟨-, decodes⟩ := (decode_bytes_eq_ok_iff _ _).1 decodes
  obtain ⟨valid, rfl⟩ := (decodeFrame_eq_ok_iff _ _).1 decodes
  exact step_of_valid full byte valid

/-! ## A frame placed for the next step (notes/assumptions/5.md) -/

theorem heldFrame_holdFrame (f : CommandFrame) (s : State) :
    heldFrame f.tail (s.holdFrame f) = f := rfl

/-- A valid frame placed runs: the cursor is 5 and its tail is the byte presented. -/
theorem step_holdFrame {f : CommandFrame} (valid : validate f = .valid) (s : State) :
    step (s.holdFrame f) = exec (instrOf f) (completedState f.tail (s.holdFrame f)) := by
  have held := heldFrame_holdFrame f s
  rw [step_of_valid rfl rfl (held.symm ▸ valid), held]

/-- The word of a frame places that frame. -/
theorem State.withFetchWord_word (s : State) (f : CommandFrame) :
    s.withFetchWord 48 f.word.toNat = s.holdFrame f := by
  rw [State.withFetchWord, Nat.mod_eq_of_lt f.word.isLt, frameOfWord_word]

/-- Settles O14: the frame placed is the valid frame of the command. -/
theorem fetchWordRunsNext : Obligations.FetchWordRunsNext := by
  intro i s wf
  rw [State.withFetchWord_word, step_holdFrame (validate_frame i), instrOf_frame wf, frame_tail]

/-! ## The echo -/

theorem JudgeCase.echo {f : CommandFrame} {s t : State} (h : JudgeCase f s t) :
    t.out.echo = s.out.echo := by
  cases h <;> rfl

/-- Settles O27, one equation per kind of step: judging leaves the echo of the byte stored. -/
theorem echoIsTheInputByte : Obligations.EchoIsTheInputByte := by
  intro s t h
  cases step_eq_next_iff.1 h with
  | held noByte => exact noByte.symm
  | dropped b byte => exact byte.symm
  | stored b byte => exact byte.symm
  | completed b t byte full judged => exact judged.echo.trans byte.symm

end Machine
end Sys2Proof
end

section
/-! Runs, the outputs of a stream that is cut in two, and the bytes a run stores: the statements on streams of
spec/20_memory.md sections 6 and 7. -/

namespace Sys2Proof.Machine

/-! ## Runs, step by step -/

theorem runs_zero (s : State) : Runs 0 s s := rfl

theorem run_succ_of_next (M : Host.Core) {s t : M.State} (h : M.step s = .next t) (n : Nat) :
    M.run (n + 1) s = M.run n t := by
  simp [Host.Core.run, h]

theorem runs_succ_iff {s t u : State} (h : step s = .next t) (n : Nat) :
    Runs (n + 1) s u ↔ Runs n t u :=
  iff_of_eq (congrArg (· = _) (run_succ_of_next core h n))

/-- No run stops (spec/40_frame_decoder.md R90). -/
theorem exists_runs (n : Nat) (s : State) : ∃ t, Runs n s t := by
  induction n generalizing s with
  | zero => exact ⟨s, runs_zero s⟩
  | succ n ih =>
    obtain ⟨t, stepped⟩ := exists_stepCase s
    obtain ⟨u, runs⟩ := ih t
    exact ⟨u, (runs_succ_iff stepped.step_eq n).2 runs⟩

/-- The first step of a run of at least one step. -/
theorem Runs.exists_step {n : Nat} {s u : State} (h : Runs (n + 1) s u) :
    ∃ t, step s = .next t ∧ Runs n t u := by
  obtain ⟨t, stepped⟩ := exists_stepCase s
  exact ⟨t, stepped.step_eq, (runs_succ_iff stepped.step_eq n).1 h⟩

/-- Each step takes one input. -/
theorem Runs.inputs {n : Nat} {s t : State} (h : Runs n s t) : t.inputs = s.inputs.drop n := by
  induction n generalizing s with
  | zero => cases h; rfl
  | succ n ih =>
    obtain ⟨u, stepped, rest⟩ := h.exists_step
    obtain ⟨-, taken, -⟩ := stepKeepsConfiguration s u stepped
    rw [ih rest, taken, List.drop_tail]

/-- The outputs of a run and of the steps that follow it. -/
theorem Runs.outputsOf_add {m : Nat} {s t : State} (h : Runs m s t) (n : Nat) :
    outputsOf (m + n) s = outputsOf m s ++ outputsOf n t := by
  induction m generalizing s with
  | zero => cases h; simp [outputsOf]
  | succ m ih =>
    obtain ⟨u, stepped, rest⟩ := h.exists_step
    rw [Nat.succ_add, outputsOf_succ stepped, outputsOf_succ stepped, ih rest, List.cons_append]

/-! ## Bytes presented behind those a step takes change nothing but the inputs to come -/

theorem State.present_present (s : State) (bs cs : List Byte) :
    (s.present bs).present cs = s.present (bs ++ cs) := by
  simp [State.present]

theorem State.present_currentInput {s : State} (pending : s.inputs ≠ []) (bs : List Byte) :
    (s.present bs).currentInput = s.currentInput := by
  cases inputs : s.inputs <;> simp_all [State.currentInput]

theorem State.present_beginStep {s : State} (pending : s.inputs ≠ []) (bs : List Byte) :
    (s.present bs).beginStep = s.beginStep.present bs := by
  rw [State.beginStep, State.present_currentInput pending]
  simp [State.beginStep, List.tail_append_of_ne_nil pending, State.present]

theorem storedState_present {s : State} (pending : s.inputs ≠ []) (b : Byte) (bs : List Byte) :
    storedState b (s.present bs) = (storedState b s).present bs := by
  rw [storedState, State.present_beginStep pending]
  rfl

theorem JudgeCase.present {f : CommandFrame} {s t : State} (h : JudgeCase f s t) (bs : List Byte) :
    JudgeCase f (s.present bs) (t.present bs) := by
  cases h with
  | badTail verdict => exact .badTail verdict
  | checksumMismatch verdict => exact .checksumMismatch verdict
  | stop valid command => exact .stop valid command
  | play valid command => exact .play valid command
  | unknown valid command => exact .unknown valid command

theorem StepCase.present {s t : State} (h : StepCase s t) (pending : s.inputs ≠ [])
    (bs : List Byte) : StepCase (s.present bs) (t.present bs) := by
  have input := State.present_currentInput pending bs
  cases h with
  | held noByte =>
    rw [← State.present_beginStep pending]
    exact .held (input ▸ noByte)
  | dropped b byte hunting noise =>
    have := StepCase.dropped (s := s.present bs) b (input ▸ byte) hunting noise
    rwa [State.present_beginStep pending] at this
  | stored b byte accepts =>
    rw [← storedState_present pending]
    exact .stored b (input ▸ byte) accepts
  | completed b t byte full judged =>
    refine .completed b _ (input ▸ byte) full ?_
    rw [storedState_present pending]
    exact judged.present bs

/-- A run that the inputs at hand cover goes the same way, with the same outputs, when more bytes stand behind them. -/
theorem Runs.present {n : Nat} {s t : State} (h : Runs n s t) (covered : n ≤ s.inputs.length)
    (bs : List Byte) :
    Runs n (s.present bs) (t.present bs) ∧ outputsOf n (s.present bs) = outputsOf n s := by
  induction n generalizing s with
  | zero => cases h; exact ⟨rfl, rfl⟩
  | succ n ih =>
    obtain ⟨u, stepped, rest⟩ := h.exists_step
    have pending : s.inputs ≠ [] := List.ne_nil_of_length_pos (by omega)
    have stepped' : step (s.present bs) = .next (u.present bs) :=
      ((step_eq_next_iff.1 stepped).present pending bs).step_eq
    have taken : u.inputs = s.inputs.tail := (stepKeepsConfiguration s u stepped).2.1
    obtain ⟨runs, outputs⟩ := ih rest (by simp [taken]; omega)
    exact ⟨(runs_succ_iff stepped' n).2 runs,
      by rw [outputsOf_succ stepped', outputsOf_succ stepped, outputs, State.present_out]⟩

/-! ## Chunks -/

theorem outputsOfChunks_cons {c : List Byte} {s t : State} (h : Runs c.length (s.present c) t)
    (cs : List (List Byte)) :
    outputsOfChunks (c :: cs) s = outputsOf c.length (s.present c) ++ outputsOfChunks cs t := by
  simp only [outputsOfChunks]
  rw [h]

/-- Settles O47, by induction on the chunks: the first is fed to its end alike whether the rest is presented behind it
or later. -/
theorem chunksDoNotMatter : Obligations.ChunksDoNotMatter := by
  intro chunks
  induction chunks with
  | nil => exact fun _ _ => rfl
  | cons c cs ih =>
    intro s idle
    obtain ⟨t, runs⟩ := exists_runs c.length (s.present c)
    have drained : t.inputs = [] := by simp [runs.inputs, idle]
    obtain ⟨runs', outputs⟩ := runs.present (by simp [idle]) cs.flatten
    rw [State.present_present] at runs' outputs
    calc outputsOfChunks (c :: cs) s
      _ = outputsOf c.length (s.present c) ++ outputsOfChunks cs t := outputsOfChunks_cons runs cs
      _ = outputsOf c.length (s.present (c ++ cs.flatten)) ++
            outputsOf cs.flatten.length (t.present cs.flatten) := by rw [outputs, ih t drained]
      _ = outputsOf (c.length + cs.flatten.length) (s.present (c ++ cs.flatten)) :=
        (runs'.outputsOf_add _).symm
      _ = outputsOf (c :: cs).flatten.length (s.present (c :: cs).flatten) := by
        rw [List.flatten_cons, List.length_append]

/-! ## The bytes of a candidate are stored one after another -/

theorem offers_cons_iff (b : Byte) (bs : List Byte) (s : State) :
    Offers (b :: bs) s ↔
      s.currentInput.inByte = some b ∧ (s.inputs.tail.take bs.length).map StepInput.inByte = bs.map some := by
  cases inputs : s.inputs with
  | nil => simp [Offers, State.currentInput, inputs, StepInput.none]
  | cons inp rest => simp [Offers, State.currentInput, inputs]

/-- The state in which these bytes have been stored, one a step. -/
def storedRun : List Byte → State → State
  | [], s => s
  | b :: bs, s => storedRun bs (storedState b s)

theorem storedRun_keeps_playback_and_cfg (bs : List Byte) (s : State) :
    (storedRun bs s).dutyPercent = s.dutyPercent ∧ (storedRun bs s).durationMs = s.durationMs ∧
      (storedRun bs s).cfg = s.cfg := by
  induction bs generalizing s with
  | nil => exact ⟨rfl, rfl, rfl⟩
  | cons b bs ih => exact ih (storedState b s)

/-- What a run of steps that each store a byte looks like: it is quiet, ends in `storedRun`, and leaves the bytes behind
still presented. -/
structure StoresAll (bs rest : List Byte) (s : State) : Prop where
  runs : Runs bs.length s (storedRun bs s)
  quiet : ∀ o ∈ outputsOf bs.length s, o.Quiet
  offers : Offers rest (storedRun bs s)

/-- One more byte stored in front. -/
theorem StoresAll.cons {b : Byte} {bs rest : List Byte} {s : State}
    (byte : s.currentInput.inByte = some b)
    (accepts : (s.cursor = 0 ∧ b = syncByte) ∨ (s.cursor ≠ 0 ∧ s.cursor ≠ 5))
    (h : StoresAll bs rest (storedState b s)) : StoresAll (b :: bs) rest s where
  runs := (runs_succ_iff (StepCase.stored b byte accepts).step_eq _).2 h.runs
  quiet := by
    rw [List.length_cons, outputsOf_succ (StepCase.stored b byte accepts).step_eq, List.forall_mem_cons]
    exact ⟨⟨rfl, rfl, rfl⟩, h.quiet⟩
  offers := h.offers

/-- Inside a candidate every byte is stored, whatever it is, as long as five are not exceeded
(spec/40_frame_decoder.md R93). -/
theorem storesAll_of_inside {bs rest : List Byte} {s : State} (inside : s.cursor ≠ 0)
    (room : s.cursor.val + bs.length ≤ 5) (offers : Offers (bs ++ rest) s) : StoresAll bs rest s := by
  induction bs generalizing s with
  | nil => exact ⟨rfl, by simp [outputsOf], offers⟩
  | cons b bs ih =>
    rw [List.length_cons] at room
    obtain ⟨byte, later⟩ := (offers_cons_iff _ _ _).1 offers
    have notFull : s.cursor ≠ 5 := fun full => by simp [full] at room
    have moved : (storedState b s).cursor.val = s.cursor.val + 1 := cursor_add_one_val notFull
    have inside' : (storedState b s).cursor ≠ 0 :=
      Fin.ne_of_val_ne (by rw [moved]; exact Nat.succ_ne_zero _)
    exact .cons byte (.inr ⟨inside, notFull⟩) (ih inside' (by omega) later)

/-- From cursor 0 the sync byte is stored, and then up to four more (R92, R93). -/
theorem storesAll_of_sync {b : Byte} {bs rest : List Byte} {s : State} (hunting : s.cursor = 0)
    (sync : b = syncByte) (room : bs.length ≤ 4) (offers : Offers (b :: bs ++ rest) s) :
    StoresAll (b :: bs) rest s := by
  obtain ⟨byte, later⟩ := (offers_cons_iff _ _ _).1 offers
  refine .cons byte (.inl ⟨hunting, sync⟩) (storesAll_of_inside ?_ ?_ later)
  · simp [hunting]
  · simp [hunting]; omega

theorem storedRun_beforeTail_cursor {s : State} (hunting : s.cursor = 0) (f : CommandFrame) :
    (storedRun f.beforeTail s).cursor = 5 := by
  simp [CommandFrame.beforeTail, storedRun, hunting]

/-- The five bytes stored from cursor 0 are those held at cursor 5. -/
theorem heldFrame_storedRun_beforeTail {s : State} (hunting : s.cursor = 0) (f : CommandFrame) :
    heldFrame f.tail (storedRun f.beforeTail s) = f := by
  simp [heldFrame, CommandFrame.beforeTail, storedRun, hunting]

/-- Settles O41: five bytes are stored and the sixth is then presented. -/
theorem candidateIsTheBytesDelivered : Obligations.CandidateIsTheBytesDelivered := by
  intro s f hunting sync offers
  rw [f.bytes_eq_beforeTail_append] at offers
  obtain ⟨runs, quiet, behind⟩ : StoresAll f.beforeTail [f.tail] s :=
    storesAll_of_sync hunting sync (Nat.le_refl 4) offers
  rw [f.beforeTail_length] at runs quiet
  obtain ⟨sixth, -⟩ := (offers_cons_iff _ _ _).1 behind
  exact ⟨quiet, _, runs, storedRun_beforeTail_cursor hunting f, sixth,
    heldFrame_storedRun_beforeTail hunting f, storedRun_keeps_playback_and_cfg _ s⟩

end Sys2Proof.Machine
end

section
/-! The encoding (spec/30_encoding.md): which windows the decoder accepts and what it refuses the others for, the two
round trips, the 48-bit word, and the opcode map as a step runs it. -/

namespace Sys2Proof

/-! ## The checksum as a number -/

/-- A byte is the checksum exactly where it is the sum of the three bytes modulo 256 (spec/30_encoding.md R73). -/
theorem eq_checksumOf_iff (x c i d : Byte) :
    x = checksumOf c i d ↔ x.toNat = (c.toNat + i.toNat + d.toNat) % 256 := by
  rw [← BitVec.toNat_inj, checksumOf, frameSum, BitVec.toNat_ofNat, Nat.mod_mod]

/-- A frame with the tail byte is valid exactly where its checksum, read as a number, is right. -/
theorem validate_eq_valid_iff_sum {f : CommandFrame} (tail : f.tail = tailByte) :
    validate f = .valid ↔
      f.checksum.toNat = (f.command.toNat + f.intensity.toNat + f.durationCode.toNat) % 256 := by
  rw [validate_eq_valid_iff, eq_checksumOf_iff, and_iff_right tail]

/-- A frame with the tail byte mismatches exactly where its checksum, read as a number, is wrong. -/
theorem validate_eq_checksumMismatch_iff_sum {f : CommandFrame} (tail : f.tail = tailByte) :
    validate f = .checksumMismatch ↔
      f.checksum.toNat ≠ (f.command.toNat + f.intensity.toNat + f.durationCode.toNat) % 256 := by
  rw [validate_eq_checksumMismatch_iff, ne_eq, eq_checksumOf_iff, and_iff_right tail]

/-! ## What the decoder makes of a frame -/

theorem decodeFrame_of_badTail {f : CommandFrame} (verdict : validate f = .badTail) :
    decodeFrame f = .error (.badTail f) := by
  simp [decodeFrame, verdict]

theorem decodeFrame_of_checksumMismatch {f : CommandFrame}
    (verdict : validate f = .checksumMismatch) : decodeFrame f = .error (.checksumMismatch f) := by
  simp [decodeFrame, verdict]

theorem decodeFrame_of_valid {f : CommandFrame} (valid : validate f = .valid) :
    decodeFrame f = .ok (instrOf f) :=
  (decodeFrame_eq_ok_iff _ _).2 ⟨valid, rfl⟩

theorem decodeFrame_frame {i : Instr} (wf : i.wf = true) : decodeFrame i.frame = .ok i := by
  rw [decodeFrame_of_valid (validate_frame i), instrOf_frame wf]

/-! ## What the decoder makes of a window -/

theorem decode_of_notSync {f : CommandFrame} (noise : f.sync ≠ syncByte) (rest : List Byte) :
    decode (f.bytes ++ rest) = .error (.notSync f.sync) := by
  simp [CommandFrame.bytes, decode, noise]

theorem decode_of_refused {f : CommandFrame} {e : DecodeError} (sync : f.sync = syncByte)
    (refused : decodeFrame f = .error e) (rest : List Byte) :
    decode (f.bytes ++ rest) = .error e := by
  obtain ⟨b0, b1, b2, b3, b4, b5⟩ := f
  simp_all [CommandFrame.bytes, decode]

theorem decode_of_accepted {f : CommandFrame} {i : Instr} (sync : f.sync = syncByte)
    (accepted : decodeFrame f = .ok i) (rest : List Byte) :
    decode (f.bytes ++ rest) = .ok (i, rest) := by
  obtain ⟨b0, b1, b2, b3, b4, b5⟩ := f
  simp_all [CommandFrame.bytes, decode]

/-- The inversion of the decoder: a window it accepts begins with the six bytes of a frame it accepts. -/
theorem exists_frame_of_decode_eq_ok {bs rest : List Byte} {i : Instr}
    (h : decode bs = .ok (i, rest)) :
    ∃ f : CommandFrame, bs = f.bytes ++ rest ∧ f.sync = syncByte ∧ decodeFrame f = .ok i := by
  unfold decode at h
  split at h
  · next b0 b1 b2 b3 b4 b5 behind =>
    by_cases sync : b0 = syncByte
    · subst sync
      cases accepted : decodeFrame ⟨syncByte, b1, b2, b3, b4, b5⟩ with
      | error e => simp [accepted] at h
      | ok j =>
        obtain ⟨rfl, rfl⟩ : j = i ∧ behind = rest := by simpa [accepted] using h
        exact ⟨_, rfl, rfl, accepted⟩
    · simp [sync] at h
  · cases h

/-- Settles O7: the tail byte decides between the second class and the last two, and the sum between those. -/
theorem windowClasses : Obligations.WindowClasses := by
  intro f rest
  refine ⟨fun noise => decode_of_notSync noise rest, fun sync tail => ?_, fun sync tail sum => ?_,
    fun sync tail sum => ?_⟩
  · have verdict := (validate_eq_badTail_iff f).2 tail
    exact decode_of_refused sync (decodeFrame_of_badTail verdict) rest
  · have verdict := (validate_eq_checksumMismatch_iff_sum tail).2 sum
    exact decode_of_refused sync (decodeFrame_of_checksumMismatch verdict) rest
  · have valid := (validate_eq_valid_iff_sum tail).2 sum
    exact ⟨_, decode_of_accepted sync (decodeFrame_of_valid valid) rest⟩

/-! ## The two round trips -/

theorem frame_sync (i : Instr) : i.frame.sync = syncByte := by
  cases i <;> rfl

/-- Settles O1: the frame of a command begins with the sync byte and is accepted as that command. -/
theorem decodeOfEncode : Obligations.DecodeOfEncode :=
  fun i rest wf => decode_of_accepted (frame_sync i) (decodeFrame_frame wf) rest

/-- The opcode map answers only well-formed commands: 0x00 and 0x01 never reach `UNKNOWN`. -/
theorem instrOf_wf (f : CommandFrame) : (instrOf f).wf = true := by
  obtain command | command | command := command_cases f.command
  · rw [instrOf_of_stop command]; rfl
  · rw [instrOf_of_play command]; rfl
  · rw [Machine.instrOf_of_two_le command]; exact decide_eq_true command

/-- The opcode map keeps the three bytes that a frame is made of. -/
theorem frame_instrOf_eq_mkFrame (f : CommandFrame) :
    (instrOf f).frame = mkFrame f.command f.intensity f.durationCode := by
  obtain command | command | command := command_cases f.command
  · rw [instrOf_of_stop command, command]; rfl
  · rw [instrOf_of_play command, command]; rfl
  · rw [Machine.instrOf_of_two_le command]; rfl

/-- A valid frame with the sync byte is the one well-formed frame of its three bytes (spec/30_encoding.md R73). -/
theorem eq_mkFrame_of_valid {f : CommandFrame} (sync : f.sync = syncByte)
    (valid : validate f = .valid) : f = mkFrame f.command f.intensity f.durationCode := by
  obtain ⟨tail, checksum⟩ := (validate_eq_valid_iff f).1 valid
  rw [mkFrame, ← sync, ← checksum, ← tail]

/-- Settles O2: the window begins with a valid frame, and a valid frame is that of the command it maps to. -/
theorem encodeOfDecode : Obligations.EncodeOfDecode := by
  intro bs i rest h
  obtain ⟨f, rfl, sync, accepted⟩ := exists_frame_of_decode_eq_ok h
  obtain ⟨valid, rfl⟩ := (decodeFrame_eq_ok_iff _ _).1 accepted
  have ownFrame : (instrOf f).frame = f :=
    (frame_instrOf_eq_mkFrame f).trans (eq_mkFrame_of_valid sync valid).symm
  exact ⟨instrOf_wf f, by rw [encode, ownFrame]⟩

/-! ## The 48-bit word -/

/-- The table word of a frame decodes as the frame's six bytes do (spec/30_encoding.md R72). -/
theorem decodeTableWord_word_of_decode {f : CommandFrame} {i : Instr} {rest : List Byte}
    (h : decode f.bytes = .ok (i, rest)) : decodeTableWord 48 f.word.toNat = some i := by
  rw [decodeTableWord, Nat.mod_eq_of_lt f.word.isLt, frameOfWord_word, h]

/-- Settles O8: the word stands for the frame, and the frame decodes to its command. -/
theorem tableWordRoundTrip : Obligations.TableWordRoundTrip := fun i wf =>
  decodeTableWord_word_of_decode (decodeOfEncode i [] wf)

/-! ## Frames written out -/

/-- Settles O6: the accepted frames are the encodings of their commands, and the sixth frame is of the third class. -/
theorem writtenOutFramesDecode : Obligations.WrittenOutFramesDecode := by
  refine ⟨decodeOfEncode (.play 50 2) [] rfl, decodeOfEncode (.play 255 255) [] rfl,
    decodeOfEncode (.stop 0 0) [] rfl, decodeOfEncode (.unknown 2 0 0) [] rfl,
    decodeOfEncode (.unknown 0x55 0 0) [] rfl, ?_, tableWordRoundTrip (.play 50 2) rfl⟩
  obtain ⟨-, -, mismatch, -⟩ := windowClasses ⟨0x55, 0x01, 0x32, 0x02, 0x99, 0xAA⟩ []
  exact mismatch rfl rfl (by decide)

namespace Machine

/-! ## The command byte selects the operation -/

/-- A candidate that is not valid is reported and nothing else: no frame, no directive, no write of PlaybackState
(spec/41_checksum_validator.md R112, R113). -/
theorem JudgeCase.of_not_valid {f : CommandFrame} {s t : State} (h : JudgeCase f s t)
    (invalid : validate f ≠ .valid) :
    t.out.frame = s.out.frame ∧ t.out.directive = s.out.directive ∧
      t.dutyPercent = s.dutyPercent ∧ t.durationMs = s.durationMs := by
  cases h with
  | badTail | checksumMismatch => exact ⟨rfl, rfl, rfl, rfl⟩
  | stop valid | play valid | unknown valid => exact absurd valid invalid

/-- Settles O23: a valid candidate runs what the opcode map answers for its command byte, an invalid one is judged
without the scheduler. -/
theorem commandByteSelects : Obligations.CommandByteSelects := by
  intro s full
  refine ⟨fun byte sum => ?_, fun b byte invalid => ?_⟩
  · have valid : validate (heldFrame 0xAA s) = .valid := (validate_eq_valid_iff_sum rfl).2 sum
    rw [step_of_valid full byte valid]
    refine ⟨fun command => ?_, fun command => ?_, fun command => ?_⟩
    · rw [instrOf_of_stop (f := heldFrame 0xAA s) command]; rfl
    · rw [instrOf_of_play (f := heldFrame 0xAA s) command]; rfl
    · rw [instrOf_of_two_le (f := heldFrame 0xAA s) command]; rfl
  · obtain ⟨t, judged⟩ := exists_judgeCase (heldFrame b s) (storedState b s)
    exact ⟨t, (StepCase.completed b t byte full judged).step_eq, judged.of_not_valid invalid⟩

end Machine
end Sys2Proof
end

section
/-! The frame decoder's cases of one step (spec/40_frame_decoder.md sections 2 and 3). -/

namespace Sys2Proof.Machine

/-! ## Every case answers -/

/-- Settles O15: every state falls in a case of a step. -/
theorem stepAlwaysAnswersNext : Obligations.StepAlwaysAnswersNext := by
  refine ⟨fun s => ?_, exists_runs⟩
  obtain ⟨t, stepped⟩ := exists_stepCase s
  exact ⟨t, stepped.step_eq⟩

/-! ## DROP -/

/-- `t` has the configuration, the decoder's registers and the PlaybackState of `s`. -/
structure CoreKept (s t : State) : Prop where
  cfg : t.cfg = s.cfg
  buf : t.buf = s.buf
  cursor : t.cursor = s.cursor
  dutyPercent : t.dutyPercent = s.dutyPercent
  durationMs : t.durationMs = s.durationMs

theorem CoreKept.refl (s : State) : CoreKept s s := ⟨rfl, rfl, rfl, rfl, rfl⟩

theorem CoreKept.trans {s t u : State} (first : CoreKept s t) (second : CoreKept t u) :
    CoreKept s u where
  cfg := second.cfg.trans first.cfg
  buf := second.buf.trans first.buf
  cursor := second.cursor.trans first.cursor
  dutyPercent := second.dutyPercent.trans first.dutyPercent
  durationMs := second.durationMs.trans first.durationMs

theorem beginStep_echoByte_coreKept (b : Byte) (s : State) : CoreKept s (s.beginStep.echoByte b) :=
  ⟨rfl, rfl, rfl, rfl, rfl⟩

/-- What a run over dropped bytes looks like: each is echoed and nothing else comes out, and the core's state stays. -/
structure DropsAll (bs : List Byte) (s t : State) : Prop where
  runs : Runs bs.length s t
  outputs : outputsOf bs.length s = bs.map fun b => ⟨none, none, none, some b⟩
  kept : CoreKept s t

/-- A hunting decoder drops any number of noise bytes (spec/40_frame_decoder.md R91). -/
theorem exists_dropsAll {bs : List Byte} {s : State} (hunting : s.cursor = 0) (noise : Noise bs)
    (offers : Offers bs s) : ∃ t, DropsAll bs s t := by
  induction bs generalizing s with
  | nil => exact ⟨s, runs_zero s, rfl, .refl s⟩
  | cons b bs ih =>
    obtain ⟨noSync, noise⟩ := List.forall_mem_cons.1 noise
    obtain ⟨byte, later⟩ := (offers_cons_iff b bs s).1 offers
    have stepped := (StepCase.dropped b byte hunting noSync).step_eq
    obtain ⟨t, runs, outputs, kept⟩ := ih (s := s.beginStep.echoByte b) hunting noise later
    refine ⟨t, (runs_succ_iff stepped _).2 runs, ?_, (beginStep_echoByte_coreKept b s).trans kept⟩
    rw [List.length_cons, outputsOf_succ stepped, outputs]
    rfl

/-- Settles O17: the case `dropped` of a step, and a run of it. -/
theorem dropStep : Obligations.DropStep := by
  refine ⟨fun s b hunting byte noSync => ?_, fun bs s hunting noise offers => ?_⟩
  · exact ⟨_, (StepCase.dropped b byte hunting noSync).step_eq, rfl, hunting, rfl, rfl, rfl, rfl⟩
  · obtain ⟨t, runs, outputs, kept⟩ := exists_dropsAll hunting noise offers
    exact ⟨outputs, t, runs, kept.cursor.trans hunting, kept.buf, kept.dutyPercent, kept.durationMs⟩

/-! ## SYNC and APPEND -/

theorem storedState_of_hunting {s : State} (b : Byte) (hunting : s.cursor = 0) :
    storedState b s =
      { passedState ⟨none, none, none, some b⟩ s with buf := s.buf.set 0 b, cursor := 1 } := by
  simp [storedState, passedState, State.append, State.echoByte, State.beginStep, StepOutput.absent,
    hunting]

/-- Settles O18: the sync byte is stored at the cursor 0. -/
theorem syncStep : Obligations.SyncStep := by
  intro s hunting byte
  rw [← storedState_of_hunting 0x55 hunting]
  exact (StepCase.stored 0x55 byte (.inl ⟨hunting, rfl⟩)).step_eq

/-- Inside a candidate any byte is stored, whatever it is (spec/40_frame_decoder.md R93). -/
theorem step_of_inside {s : State} {b : Byte} (inside : s.cursor ≠ 0) (notFull : s.cursor ≠ 5)
    (byte : s.currentInput.inByte = some b) : step s = .next (storedState b s) :=
  (StepCase.stored b byte (.inr ⟨inside, notFull⟩)).step_eq

/-- Settles O19: the cursors 1 to 4 are those inside a candidate that is not full. -/
theorem appendStep : Obligations.AppendStep := by
  intro s b lower upper byte
  have inside : s.cursor ≠ 0 := fun h => by simp [h] at lower
  have notFull : s.cursor ≠ 5 := fun h => by simp [h] at upper
  exact ⟨_, step_of_inside inside notFull byte, rfl, cursor_add_one_val notFull, rfl, rfl, rfl, rfl⟩

/-! ## COMPLETE -/

/-- The three outcomes of judging: a framing error is all that changes, or the frame is emitted. -/
theorem JudgeCase.outcome {f : CommandFrame} {s t : State} (h : JudgeCase f s t) :
    (validate f = .badTail ∧ t = s.raiseDiag (.badTail f)) ∨
    (validate f = .checksumMismatch ∧ t = s.raiseDiag (.checksumMismatch f)) ∨
    (validate f = .valid ∧ t.out.frame = some f) := by
  cases h with
  | badTail verdict => exact .inl ⟨verdict, rfl⟩
  | checksumMismatch verdict => exact .inr (.inl ⟨verdict, rfl⟩)
  | stop valid | play valid | unknown valid => exact .inr (.inr ⟨valid, rfl⟩)

/-- A valid candidate is emitted (spec/41_checksum_validator.md R114). -/
theorem JudgeCase.frame_of_valid {f : CommandFrame} {s t : State} (h : JudgeCase f s t)
    (valid : validate f = .valid) : t.out.frame = some f := by
  obtain ⟨verdict, -⟩ | ⟨verdict, -⟩ | ⟨-, frame⟩ := h.outcome
  · cases valid.symm.trans verdict
  · cases valid.symm.trans verdict
  · exact frame

/-- Judging leaves the cursor where the sixth byte wrapped it (spec/10_state.md R22). -/
theorem JudgeCase.cursor_of_full {f : CommandFrame} {b : Byte} {s t : State}
    (judged : JudgeCase f (storedState b s) t) (full : s.cursor = 5) : t.cursor = 0 :=
  judged.decoderKept.cursor.trans (storedState_cursor_of_full full)

/-- A completion step judges the candidate and wraps the cursor to 0, whatever the verdict. -/
theorem exists_judged_of_full {s : State} {b : Byte} (full : s.cursor = 5)
    (byte : s.currentInput.inByte = some b) :
    ∃ t, step s = .next t ∧ JudgeCase (heldFrame b s) (storedState b s) t ∧ t.cursor = 0 ∧
      t.buf = s.buf.set s.cursor.val b s.cursor.isLt := by
  obtain ⟨t, judged⟩ := exists_judgeCase (heldFrame b s) (storedState b s)
  exact ⟨t, (StepCase.completed b t byte full judged).step_eq, judged, judged.cursor_of_full full,
    judged.decoderKept.buf⟩

theorem set_cursor_of_full {s : State} (b : Byte) (full : s.cursor = 5) :
    s.buf.set s.cursor.val b s.cursor.isLt = s.buf.set 5 b := by
  simp [full]

/-- Settles O20: the three outcomes of judging the candidate. -/
theorem completeStep : Obligations.CompleteStep := by
  intro s b full byte
  obtain ⟨t, stepped, judged, wraps, buf⟩ := exists_judged_of_full full byte
  refine ⟨t, stepped, wraps, buf.trans (set_cursor_of_full b full), judged.echo, ?_⟩
  obtain ⟨verdict, rfl⟩ | ⟨verdict, rfl⟩ | ⟨valid, frame⟩ := judged.outcome
  · exact .inl ⟨verdict, rfl, rfl, rfl⟩
  · exact .inr (.inl ⟨verdict, rfl, rfl, rfl⟩)
  · exact .inr (.inr ⟨valid, frame, (step_of_valid full byte valid).symm.trans stepped⟩)

/-- Settles O24: below 5 the byte is stored as any other; as the sixth byte it is not the tail. -/
theorem syncByteInsideIsData : Obligations.SyncByteInsideIsData := by
  intro s inside byte
  by_cases full : s.cursor = 5
  · obtain ⟨t, stepped, judged, wraps, buf⟩ := exists_judged_of_full full byte
    have verdict : validate (heldFrame 0x55 s) = .badTail :=
      (validate_eq_badTail_iff _).2 (by decide : (0x55 : Byte) ≠ tailByte)
    refine ⟨t, stepped, buf, absurd full, fun _ => ⟨wraps, ?_⟩⟩
    obtain ⟨-, rfl⟩ | ⟨other, -⟩ | ⟨other, -⟩ := judged.outcome
    · rfl
    · cases verdict.symm.trans other
    · cases verdict.symm.trans other
  · exact ⟨_, step_of_inside inside full byte, rfl,
      fun _ => ⟨cursor_add_one_val full, rfl⟩, fun h => absurd h full⟩

/-- Settles O28: the other cases of a step output at most the echo. -/
theorem outputsOnlyAtCompletion : Obligations.OutputsOnlyAtCompletion := by
  intro s t h loud
  cases step_eq_next_iff.1 h with
  | held | dropped | stored => exact absurd ⟨rfl, rfl, rfl⟩ loud
  | completed b t byte full judged =>
    exact ⟨full, by simp [byte], judged.cursor_of_full full⟩

/-- Settles O43: a frame with a wrong tail or sum is not valid, and SYNC starts from the cursor 0 it leaves. -/
theorem rejectedFrameLeavesCleanDecoder : Obligations.RejectedFrameLeavesCleanDecoder := by
  intro s b full byte wrong
  have invalid : validate (heldFrame b s) ≠ .valid := by
    intro valid
    obtain ⟨tail, -⟩ := (validate_eq_valid_iff _).1 valid
    exact wrong.elim (· tail) (· ((validate_eq_valid_iff_sum tail).1 valid))
  obtain ⟨t, stepped, judged, wraps, -⟩ := exists_judged_of_full full byte
  obtain ⟨noFrame, -⟩ := judged.of_not_valid invalid
  refine ⟨t, stepped, noFrame, wraps, fun sync => ⟨_, syncStep t wraps sync, rfl, ?_⟩⟩
  exact Vector.getElem_set_self (by decide)

end Sys2Proof.Machine
end

section
/-! Runs of the frame decoder: how many bytes a candidate still waits for (spec/40_frame_decoder.md R96, R99) and
resynchronization (R101). -/

namespace Sys2Proof.Machine

/-! ## Nothing comes out while fewer than six bytes are held -/

/-- The byte a step is presented, counted: 0 or 1. -/
def byteCount (s : State) : Nat := s.currentInput.inByte.toList.length

theorem byteCount_of_none {s : State} (noByte : s.currentInput.inByte = none) : byteCount s = 0 := by
  simp [byteCount, noByte]

theorem byteCount_of_some {s : State} {b : Byte} (byte : s.currentInput.inByte = some b) :
    byteCount s = 1 := by
  simp [byteCount, byte]

/-- How many of the next `n` steps are presented a byte. -/
def bytesOffered (n : Nat) (s : State) : Nat :=
  ((s.inputs.take n).filter fun inp => inp.inByte.isSome).length

theorem bytesOffered_le (n : Nat) (s : State) : bytesOffered n s ≤ n :=
  (List.length_filter_le _ _).trans (List.length_take_le n s.inputs)

theorem bytesOffered_succ {s t : State} (h : step s = .next t) (n : Nat) :
    bytesOffered (n + 1) s = byteCount s + bytesOffered n t := by
  obtain ⟨-, taken, -⟩ := stepKeepsConfiguration s t h
  rw [bytesOffered, bytesOffered, taken]
  cases inputs : s.inputs with
  | nil => simp [byteCount, State.currentInput, inputs, StepInput.none]
  | cons inp rest =>
    cases byte : inp.inByte <;> simp [byteCount, State.currentInput, inputs, byte, Nat.add_comm]

/-- A step that does not complete a candidate is quiet, and the cursor counts its byte unless the byte is dropped. -/
theorem step_of_room {s t : State} (h : step s = .next t) (room : s.cursor.val + byteCount s ≤ 5) :
    t.out.Quiet ∧ t.cursor.val ≤ s.cursor.val + byteCount s ∧
      (s.cursor ≠ 0 → t.cursor.val = s.cursor.val + byteCount s) := by
  cases step_eq_next_iff.1 h with
  | held noByte => exact ⟨⟨rfl, rfl, rfl⟩, by simp, by simp [byteCount_of_none noByte]⟩
  | dropped b byte hunting => exact ⟨⟨rfl, rfl, rfl⟩, by simp, absurd hunting⟩
  | stored b byte =>
    rw [byteCount_of_some byte] at room ⊢
    have notFull : s.cursor ≠ 5 := fun full => by simp [full] at room
    have moved : (storedState b s).cursor.val = s.cursor.val + 1 := cursor_add_one_val notFull
    exact ⟨⟨rfl, rfl, rfl⟩, moved.le, fun _ => moved⟩
  | completed b t byte full => simp [full, byteCount_of_some byte] at room

/-- While the bytes to come leave at most five held, nothing but the echo comes out, and a candidate in progress counts
them. -/
theorem run_of_room {n : Nat} {s t : State} (h : Runs n s t)
    (room : s.cursor.val + bytesOffered n s ≤ 5) :
    (∀ o ∈ outputsOf n s, o.Quiet) ∧
      (s.cursor ≠ 0 → t.cursor.val = s.cursor.val + bytesOffered n s) := by
  induction n generalizing s with
  | zero => cases h; simp [outputsOf, bytesOffered]
  | succ n ih =>
    obtain ⟨u, stepped, rest⟩ := h.exists_step
    rw [bytesOffered_succ stepped] at room ⊢
    obtain ⟨quiet, bound, counts⟩ := step_of_room stepped (by omega)
    obtain ⟨quietRest, countsRest⟩ := ih rest (by omega)
    refine ⟨?_, fun inside => ?_⟩
    · rw [outputsOf_succ stepped, List.forall_mem_cons]
      exact ⟨quiet, quietRest⟩
    · have moved := counts inside
      have inside' : u.cursor ≠ 0 := by
        rw [← Fin.val_ne_zero_iff] at inside ⊢
        omega
      rw [countsRest inside', moved, Nat.add_assoc]

/-- Settles O44. -/
theorem candidateHasNoTimeout : Obligations.CandidateHasNoTimeout := by
  intro n s inside room
  obtain ⟨t, runs⟩ := exists_runs n s
  obtain ⟨quiet, counts⟩ := run_of_room runs room
  exact ⟨quiet, t, runs, counts inside⟩

/-- Settles O45: the step that emits leaves cursor 0, and five steps bring at most five bytes. -/
theorem framesAreSixStepsApart : Obligations.FramesAreSixStepsApart := by
  intro s t h emits o mem
  have loud : ¬ t.out.Quiet := fun quiet => by simp [quiet.1] at emits
  obtain ⟨-, -, wraps⟩ := outputsOnlyAtCompletion s t h loud
  have room : t.cursor.val + bytesOffered 5 t ≤ 5 := by
    simpa [wraps] using bytesOffered_le 5 t
  obtain ⟨u, runs⟩ := exists_runs 5 t
  obtain ⟨quiet, -⟩ := run_of_room runs room
  obtain ⟨noFrame, -⟩ := quiet o mem
  exact noFrame

/-! ## Resynchronization -/

theorem Runs.trans {m n : Nat} {s t u : State} (first : Runs m s t) (second : Runs n t u) :
    Runs (m + n) s u := by
  induction m generalizing s with
  | zero => cases first; simpa using second
  | succ m ih =>
    obtain ⟨v, stepped, rest⟩ := first.exists_step
    rw [Nat.succ_add]
    exact (runs_succ_iff stepped _).2 (ih rest)

theorem Offers.left {bs cs : List Byte} {s : State} (h : Offers (bs ++ cs) s) : Offers bs s := by
  simpa [Offers, List.map_take, List.take_take] using congrArg (List.take bs.length) h

/-- What is offered behind the bytes a run takes is offered to the state it ends in. -/
theorem Offers.right_of_runs {bs cs : List Byte} {s t : State} (h : Offers (bs ++ cs) s)
    (runs : Runs bs.length s t) : Offers cs t := by
  simpa [Offers, runs.inputs, List.map_take, List.map_drop, List.drop_take] using
    congrArg (List.drop bs.length) h

/-- Settles O42: the noise is dropped, five bytes are stored, and the sixth completes the valid frame of the command. -/
theorem resyncAfterNoise : Obligations.ResyncAfterNoise := by
  intro s noise i hunting clean wf offers
  obtain ⟨v, drops, outputs, kept⟩ := exists_dropsAll hunting clean (Offers.left offers)
  obtain ⟨quiet, u, stores, full, byte, held, duty, duration, cfg⟩ :=
    candidateIsTheBytesDelivered v i.frame (kept.cursor.trans hunting) (frame_sync i)
      (Offers.right_of_runs offers drops)
  rw [frame_tail] at byte held
  have valid : validate (heldFrame 0xAA u) = .valid := held.symm ▸ validate_frame i
  have runsCommand := step_of_valid full byte valid
  rw [held, instrOf_frame wf] at runsCommand
  obtain ⟨t, stepped, judged, wraps, -⟩ := exists_judged_of_full full byte
  refine ⟨?_, u, t, drops.trans stores, duty.trans kept.dutyPercent,
    duration.trans kept.durationMs, cfg.trans kept.cfg, runsCommand, stepped, wraps, ?_⟩
  · rw [drops.outputsOf_add, outputs, List.forall_mem_append]
    exact ⟨List.forall_mem_map.2 fun _ _ => ⟨rfl, rfl, rfl⟩, quiet⟩
  · rw [← held]
    exact judged.frame_of_valid valid

end Sys2Proof.Machine
end

section
/-! `feed` against the flat transcription of the spec's pseudocode (spec/40_frame_decoder.md R90). -/

namespace Sys2Proof.Machine

/-! ## The pseudocode on numbers -/

/-- The part of `feedPseudo` that applies a valid frame `f`, dispatching on numbers (R120, R122). -/
def applyPseudo (f : CommandFrame) (s : State) : State :=
  if f.command.toNat = 0x00 then s.issue .stop
  else if f.command.toNat = 0x01 then
    (s.setPlayback (min f.intensity.toNat 100)
      (if f.durationCode.toNat = 0 then 0 else f.durationCode.toNat * 50)).issue
        (pseudoStart s.cfg.pwmPeriodTicks s.cfg.maxRepeat f.intensity.toNat f.durationCode.toNat)
  else s.raiseDiag (.unknownCommand f.command)

/-- The part of `feedPseudo` that judges a completed candidate `f`, testing numbers (R110). -/
def judgePseudo (f : CommandFrame) (s : State) : State :=
  if f.tail.toNat ≠ 0xAA then s.raiseDiag (.badTail f)
  else if f.checksum.toNat ≠ (f.command.toNat + f.intensity.toNat + f.durationCode.toNat) % 256 then
    s.raiseDiag (.checksumMismatch f)
  else applyPseudo f (s.emitFrame f)

/-! ## `feedPseudo` in each case of a step -/

theorem feedPseudo_of_drop {b : Byte} {s : State} (hunting : s.cursor = 0) (noise : b ≠ syncByte) :
    feedPseudo b s = s.echoByte b := by
  have noise' : b.toNat ≠ 0x55 := fun h => noise (BitVec.eq_of_toNat_eq h)
  simp [feedPseudo, hunting, noise', State.echoByte]

theorem feedPseudo_of_store {b : Byte} {s : State}
    (accepts : (s.cursor = 0 ∧ b = syncByte) ∨ (s.cursor ≠ 0 ∧ s.cursor ≠ 5)) :
    feedPseudo b s = (s.echoByte b).append b := by
  have notDrop : ¬ (s.cursor.val = 0 ∧ b.toNat ≠ 0x55) := by
    rintro ⟨hunting, noise⟩
    obtain ⟨-, rfl⟩ | ⟨inside, -⟩ := accepts
    · exact noise rfl
    · exact inside (Fin.ext hunting)
  have notFull : s.cursor.val + 1 ≠ 6 := by
    obtain ⟨hunting, -⟩ | ⟨-, notFull⟩ := accepts
    · simp [hunting]
    · exact fun full => notFull (Fin.ext (Nat.succ.inj full))
  rw [feedPseudo, if_neg notDrop]
  simp only [if_neg notFull]
  rfl

theorem feedPseudo_of_full {b : Byte} {s : State} (full : s.cursor = 5) :
    feedPseudo b s =
      judgePseudo ((s.echoByte b).append b).candidate ((s.echoByte b).append b) := by
  obtain ⟨cfg, buf, cursor, duty, duration, driver, err, inputs, out, free⟩ := s
  obtain rfl : cursor = 5 := full
  have wraps : (5 : Fin 6) + 1 = 0 := rfl
  simp only [feedPseudo, judgePseudo, applyPseudo, State.append, State.echoByte, State.candidate,
    State.raiseDiag, State.emitFrame, State.setPlayback, wraps]
  rfl

theorem durationOf_eq_ite (d : Byte) :
    durationOf d = if d.toNat = 0 then 0 else d.toNat * 50 := by
  rw [durationOf_eq_mul]
  split <;> simp_all

/-- The directive of a PLAY on bytes is the one on numbers. -/
theorem startOf_eq_pseudoStart (cfg : Config) (i d : Byte) :
    startOf cfg i d = pseudoStart cfg.pwmPeriodTicks cfg.maxRepeat i.toNat d.toNat := by
  simp only [startOf, pseudoStart, modeOf, ← durationOf_eq_ite]
  split <;> rfl

theorem toNat_of_eq_tailByte {b : Byte} (tail : b = tailByte) : b.toNat = 0xAA := by
  rw [tail]
  rfl

theorem judgePseudo_of_valid {f : CommandFrame} (valid : validate f = .valid) (s : State) :
    judgePseudo f s = applyPseudo f (s.emitFrame f) := by
  obtain ⟨tail, -⟩ := (validate_eq_valid_iff f).1 valid
  have sum := (validate_eq_valid_iff_sum tail).1 valid
  rw [judgePseudo, if_neg (not_not.2 (toNat_of_eq_tailByte tail)), if_neg (not_not.2 sum)]

/-- Each test on numbers is the one the model makes on bytes. -/
theorem JudgeCase.eq_judgePseudo {f : CommandFrame} {s t : State} (h : JudgeCase f s t) :
    t = judgePseudo f s := by
  cases h with
  | badTail verdict =>
    have tail : f.tail.toNat ≠ 0xAA := fun h =>
      (validate_eq_badTail_iff f).1 verdict (BitVec.eq_of_toNat_eq h)
    rw [judgePseudo, if_pos tail]
  | checksumMismatch verdict =>
    obtain ⟨tail, -⟩ := (validate_eq_checksumMismatch_iff f).1 verdict
    have sum := (validate_eq_checksumMismatch_iff_sum tail).1 verdict
    rw [judgePseudo, if_neg (not_not.2 (toNat_of_eq_tailByte tail)), if_pos sum]
  | stop valid command =>
    rw [judgePseudo_of_valid valid, applyPseudo, command]
    rfl
  | play valid command =>
    rw [judgePseudo_of_valid valid, applyPseudo, command, startOf_eq_pseudoStart, durationOf_eq_ite]
    rfl
  | unknown valid command =>
    rw [judgePseudo_of_valid valid, applyPseudo, if_neg (by omega), if_neg (by omega)]

theorem judgeCandidate_eq_judgePseudo (f : CommandFrame) (s : State) :
    judgeCandidate f s = .next (judgePseudo f s) := by
  obtain ⟨t, judged⟩ := exists_judgeCase f s
  rw [judged.judgeCandidate_eq, judged.eq_judgePseudo]

/-- Settles O16, one equation of the pseudocode per case of `feed`. -/
theorem feedIsThePseudocode : Obligations.FeedIsThePseudocode := by
  intro b s
  obtain ⟨⟨hunting, noise⟩, fed⟩ | ⟨accepts, fed⟩ | ⟨full, fed⟩ := feed_cases b s
  · rw [fed, feedPseudo_of_drop hunting noise]
  · rw [fed, feedPseudo_of_store accepts]
  · rw [fed, judgeCandidate_eq_judgePseudo, feedPseudo_of_full full]

end Sys2Proof.Machine
end

section
/-! The checksum validator (spec/41_checksum_validator.md): the checksum as addition of bytes, what the check catches,
and the completion step of a candidate that fails it. -/

namespace Sys2Proof

/-! ## The checksum as wrap-around addition -/

/-- The checksum of three bytes is their sum in an 8-bit register (spec/41_checksum_validator.md R115). -/
theorem checksumOf_eq_add (c i d : Byte) : checksumOf c i d = c + i + d := by
  refine ((eq_checksumOf_iff _ c i d).2 ?_).symm
  rw [BitVec.toNat_add, BitVec.toNat_add, Nat.mod_add_mod]

theorem frameSum_le (c i d : Byte) : frameSum c i d ≤ 765 := by
  have hc := c.isLt
  have hi := i.isLt
  have hd := d.isLt
  rw [frameSum]
  omega

theorem checksumOf_toNat (c i d : Byte) : (checksumOf c i d).toNat = frameSum c i d % 256 :=
  (eq_checksumOf_iff _ c i d).1 rfl

/-- Settles O36: the register addition gives the sum modulo 256; the five examples are evaluated. -/
theorem checksumArithmetic : Obligations.ChecksumArithmetic := by
  refine ⟨fun c i d => ⟨rfl, frameSum_le c i d, checksumOf_toNat c i d, checksumOf_eq_add c i d⟩,
    fun f x y z => rfl, ?_⟩
  decide

/-! ## What the check catches -/

theorem checksumOf_command_inj {c c' i d : Byte} :
    checksumOf c i d = checksumOf c' i d ↔ c = c' := by
  simp only [checksumOf_eq_add, add_left_inj]

theorem checksumOf_intensity_inj {c i i' d : Byte} :
    checksumOf c i d = checksumOf c i' d ↔ i = i' := by
  simp only [checksumOf_eq_add, add_left_inj, add_right_inj]

theorem checksumOf_durationCode_inj {c i d d' : Byte} :
    checksumOf c i d = checksumOf c i d' ↔ d = d' := by
  simp only [checksumOf_eq_add, add_right_inj]

/-- What is added to one summed byte and taken from another does not reach the checksum (R116). -/
theorem checksumOf_add_sub (c i d x : Byte) : checksumOf c (i + x) (d - x) = checksumOf c i d := by
  rw [checksumOf_eq_add, checksumOf_eq_add]
  abel

/-- Settles O37: the checksum is injective in each summed byte, so one changed byte no longer fits it; two changes that
cancel leave the checksum as it was. -/
theorem singleByteChangeIsCaught : Obligations.SingleByteChangeIsCaught := by
  refine ⟨fun f x valid => ?_, fun f x valid => ?_⟩
  · obtain ⟨tail, sum⟩ := (validate_eq_valid_iff f).1 valid
    refine ⟨fun changed => (validate_eq_checksumMismatch_iff _).2 ⟨tail, fun fits => ?_⟩,
      fun changed => (validate_eq_checksumMismatch_iff _).2 ⟨tail, fun fits => ?_⟩,
      fun changed => (validate_eq_checksumMismatch_iff _).2 ⟨tail, fun fits => ?_⟩,
      fun changed => (validate_eq_checksumMismatch_iff _).2 ⟨tail, fun fits => ?_⟩,
      fun changed => (validate_eq_badTail_iff _).2 fun fits => ?_⟩
    · exact changed (checksumOf_command_inj.1 (fits.symm.trans sum))
    · exact changed (checksumOf_intensity_inj.1 (fits.symm.trans sum))
    · exact changed (checksumOf_durationCode_inj.1 (fits.symm.trans sum))
    · exact changed (fits.trans sum.symm)
    · exact changed (fits.trans tail.symm)
  · obtain ⟨tail, sum⟩ := (validate_eq_valid_iff f).1 valid
    exact (validate_eq_valid_iff _).2 ⟨tail, sum.trans (checksumOf_add_sub _ _ _ x).symm⟩

namespace Machine

/-! ## The completion step of a candidate that fails the check -/

/-- Storing the sixth byte and raising a diagnostic: the diagnostic and the echo are the only outputs, and the core's
state changes by the completion alone (spec/41_checksum_validator.md R112, R113). -/
theorem storedState_raiseDiag_of_full {s : State} (b : Byte) (d : Diagnostic) (full : s.cursor = 5) :
    ((storedState b s).raiseDiag d).out = ⟨none, none, some d, some b⟩ ∧
      ((storedState b s).raiseDiag d).buf = s.buf.set 5 b ∧
      ((storedState b s).raiseDiag d).cursor = 0 ∧
      ((storedState b s).raiseDiag d).dutyPercent = s.dutyPercent ∧
      ((storedState b s).raiseDiag d).durationMs = s.durationMs ∧
      ((storedState b s).raiseDiag d).cfg = s.cfg :=
  ⟨rfl, set_cursor_of_full b full, storedState_cursor_of_full full, rfl, rfl, rfl⟩

/-- Settles O21: the tail alone decides the verdict, so judging raises `BAD_TAIL`. -/
theorem badTailStep : Obligations.BadTailStep := by
  intro s b full byte tail
  have verdict : validate (heldFrame b s) = .badTail := (validate_eq_badTail_iff _).2 tail
  exact ⟨_, (StepCase.completed b _ byte full (.badTail verdict)).step_eq,
    storedState_raiseDiag_of_full b _ full⟩

/-- Settles O22: with the tail right the sum decides the verdict, so judging raises `CHECKSUM_MISMATCH`. -/
theorem checksumMismatchStep : Obligations.ChecksumMismatchStep := by
  intro s full byte sum
  have verdict : validate (heldFrame 0xAA s) = .checksumMismatch :=
    (validate_eq_checksumMismatch_iff_sum rfl).2 sum
  exact ⟨_, (StepCase.completed 0xAA _ byte full (.checksumMismatch verdict)).step_eq,
    storedState_raiseDiag_of_full 0xAA _ full⟩

end Machine
end Sys2Proof
end

section
/-! The scheduler's arithmetic (spec/42_playback_scheduler.md R123 to R128): the operands, the duty ticks as a floor and
the cycle count as a clamped ceiling. -/

namespace Sys2Proof.Machine

/-! ## The operands of a command -/

theorem dutyOf_le (i : Byte) : dutyOf i ≤ 100 := Nat.min_le_right _ _

theorem toNat_eq_zero_iff (d : Byte) : d.toNat = 0 ↔ d = 0 :=
  BitVec.toNat_inj (y := 0)

theorem durationOf_eq_zero_iff (d : Byte) : durationOf d = 0 ↔ d = 0 := by
  rw [durationOf_eq_mul, Nat.mul_eq_zero, or_iff_left (by decide), toNat_eq_zero_iff]

theorem durationOf_le (d : Byte) : durationOf d ≤ 12750 := by
  have := d.isLt
  rw [durationOf_eq_mul]
  omega

/-- Settles O38: the duration is one multiplication for every code, and the corner values of the clamp are evaluated. -/
theorem operandValues : Obligations.OperandValues :=
  ⟨fun i => ⟨rfl, dutyOf_le i⟩,
    fun d => ⟨(durationOf_eq_zero_iff d).2, fun _ => durationOf_eq_mul d, durationOf_eq_zero_iff d,
      durationOf_le d⟩,
    by decide⟩

/-! ## The duty ticks -/

theorem toNat_ofNat_u16_of_le {n : Nat} (h : n ≤ 65535) : (BitVec.ofNat 16 n).toNat = n :=
  (BitVec.toNat_ofNat n 16).trans (Nat.mod_eq_of_lt (Nat.lt_succ_of_le h))

theorem dutyTicks_mul_le (cfg : Config) (duty : Nat) :
    dutyTicks cfg duty * 100 ≤ cfg.pwmPeriodTicks * duty :=
  Nat.div_mul_le_self _ _

theorem lt_dutyTicks_succ_mul (cfg : Config) (duty : Nat) :
    cfg.pwmPeriodTicks * duty < (dutyTicks cfg duty + 1) * 100 :=
  Nat.lt_mul_of_div_lt (Nat.lt_succ_self _) (by decide)

theorem dutyTicks_mono (cfg : Config) {duty' duty : Nat} (h : duty' ≤ duty) :
    dutyTicks cfg duty' ≤ dutyTicks cfg duty :=
  Nat.div_le_div_right (Nat.mul_le_mul_left _ h)

theorem dutyTicks_zero (cfg : Config) : dutyTicks cfg 0 = 0 := by
  simp [dutyTicks]

theorem dutyTicks_hundred (cfg : Config) : dutyTicks cfg 100 = cfg.pwmPeriodTicks :=
  Nat.mul_div_cancel _ (by decide)

/-- The largest duty gives P, and a smaller one no more. -/
theorem dutyTicks_le (cfg : Config) {duty : Nat} (h : duty ≤ 100) :
    dutyTicks cfg duty ≤ cfg.pwmPeriodTicks :=
  (dutyTicks_mono cfg h).trans_eq (dutyTicks_hundred cfg)

/-- The ticks of a legal duty are not cut by the 16 bits of the PWM interface. -/
theorem toNat_ofNat_dutyTicks (cfg : Config) {duty : Nat} (h : duty ≤ 100) :
    (BitVec.ofNat 16 (dutyTicks cfg duty)).toNat = dutyTicks cfg duty :=
  toNat_ofNat_u16_of_le ((dutyTicks_le cfg h).trans cfg.period_range.2)

theorem dutyTicks_mul_of_dvd {cfg : Config} (exact : cfg.pwmPeriodTicks % 100 = 0) (duty : Nat) :
    dutyTicks cfg duty * 100 = cfg.pwmPeriodTicks * duty :=
  Nat.div_mul_cancel ((Nat.dvd_of_mod_eq_zero exact).mul_right duty)

/-- Settles O39: each clause is a fact of the floor of `P * duty / 100`, and the worked values are evaluated. -/
theorem dutyTicksExact : Obligations.DutyTicksExact := by
  refine ⟨fun cfg duty h => ?_, fun cfg => ⟨dutyTicks_zero cfg, dutyTicks_hundred cfg⟩,
    fun cfg period => ?_, fun cfg period => ?_, fun cfg period => ?_⟩
  · exact ⟨dutyTicks_mul_le cfg duty, lt_dutyTicks_succ_mul cfg duty, dutyTicks_le cfg h,
      toNat_ofNat_dutyTicks cfg h, fun _ => dutyTicks_mono cfg,
      fun exact => dutyTicks_mul_of_dvd exact duty⟩
  all_goals rw [dutyTicks, period]

/-! ## The cycle count -/

theorem ceilDiv_le_iff {b : Nat} (pos : 0 < b) (a n : Nat) : ceilDiv a b ≤ n ↔ a ≤ b * n := by
  rw [ceilDiv, ← Nat.ceilDiv_eq_add_pred_div, ceilDiv_le_iff_le_mul pos]

theorem totalUs_durationOf (d : Byte) : totalUs (durationOf d) = d.toNat * 50000 := by
  rw [totalUs, durationOf_eq_mul, Nat.mul_assoc]

/-- The raw count is the least number of periods that covers the requested time (R128). -/
theorem cyclesRaw_le_iff (cfg : Config) (d : Byte) (n : Nat) :
    cyclesRaw cfg (durationOf d) ≤ n ↔ d.toNat * 50000 ≤ n * (cfg.pwmPeriodTicks + 1) := by
  rw [cyclesRaw, periodUs, ceilDiv_le_iff (Nat.succ_pos _), totalUs_durationOf, Nat.mul_comm n]

theorem one_le_cyclesRaw (cfg : Config) {d : Byte} (finite : d ≠ 0) :
    1 ≤ cyclesRaw cfg (durationOf d) := by
  have pos : 0 < d.toNat := Nat.pos_of_ne_zero (mt (toNat_eq_zero_iff d).1 finite)
  have uncovered := (cyclesRaw_le_iff cfg d 0).not
  omega

/-- From P = 194 on, 65535 periods cover the longest time that can be requested. -/
theorem cyclesRaw_le_of_period {cfg : Config} (h : 194 ≤ cfg.pwmPeriodTicks) (d : Byte) :
    cyclesRaw cfg (durationOf d) ≤ 65535 := by
  have := d.isLt
  rw [cyclesRaw_le_iff]
  omega

theorem one_le_cyclesOf (cfg : Config) (ms : Nat) : 1 ≤ cyclesOf cfg ms := Nat.le_max_left _ _

theorem cyclesOf_le (cfg : Config) (ms : Nat) : cyclesOf cfg ms ≤ cfg.maxRepeat :=
  Nat.max_le.2 ⟨cfg.repeat_range.1, Nat.min_le_right _ _⟩

/-- The count is not cut by the 16 bits of the PWM interface. -/
theorem toNat_ofNat_cyclesOf (cfg : Config) (ms : Nat) :
    (BitVec.ofNat 16 (cyclesOf cfg ms)).toNat = cyclesOf cfg ms :=
  toNat_ofNat_u16_of_le ((cyclesOf_le cfg ms).trans cfg.repeat_range.2)

/-- For a finite duration the lower clamp is idle. -/
theorem cyclesOf_eq_min (cfg : Config) {d : Byte} (finite : d ≠ 0) :
    cyclesOf cfg (durationOf d) = min (cyclesRaw cfg (durationOf d)) cfg.maxRepeat :=
  Nat.max_eq_right (Nat.le_min.2 ⟨one_le_cyclesRaw cfg finite, cfg.repeat_range.1⟩)

/-- Settles O40: the raw count covers the requested time and one period less does not; the clamps do the rest. -/
theorem cycleCountBounds : Obligations.CycleCountBounds := by
  intro cfg d finite
  have raw := one_le_cyclesRaw cfg finite
  refine ⟨raw, one_le_cyclesOf cfg _, cyclesOf_le cfg _, toNat_ofNat_cyclesOf cfg _, fun idle => ?_,
    fun acts => ?_, fun period => cyclesRaw_le_of_period period d⟩
  · rw [cyclesOf_eq_min cfg finite, Nat.min_eq_left idle]
    have uncovered : ¬ cyclesRaw cfg (durationOf d) ≤ cyclesRaw cfg (durationOf d) - 1 := by omega
    exact ⟨(cyclesRaw_le_iff cfg d _).1 (Nat.le_refl _),
      Nat.lt_of_not_le (mt (cyclesRaw_le_iff cfg d _).2 uncovered)⟩
  · rw [cyclesOf_eq_min cfg finite, Nat.min_eq_right acts.le]

end Sys2Proof.Machine
end

section
/-! The commands of the Playback Scheduler (spec/42_playback_scheduler.md section 3 and R130, R131): what STOP, PLAY and
UNKNOWN do, and which steps issue a directive. -/

namespace Sys2Proof.Machine

/-! ## STOP -/

/-- A directive the driver accepts raises no diagnostic, draws no free value, and moves the driver (R167). -/
theorem issue_driver_of_accepted {s : State} (d : PlaybackDirective) (accepted : s.pwmErr = false) :
    (s.issue d).out.diagnostic = s.out.diagnostic ∧ (s.issue d).driver = driverAccept d ∧
      (s.issue d).freeCount = s.freeCount := by
  rw [State.issue_accepted d accepted]
  exact ⟨rfl, rfl, rfl⟩

/-- Settles O9: the frame is the encoding of a well-formed command, and `issue` is all that STOP does. -/
theorem stopCompletes : Obligations.StopCompletes := fun i d s =>
  ⟨s.issue .stop, decodeFrame_frame (i := .stop i d) rfl, exec_stop i d s, rfl,
    issue_driver_of_accepted .stop, rfl, rfl, rfl, rfl, rfl, rfl, rfl, rfl, rfl⟩

/-! ## PLAY -/

/-- The state a PLAY leaves: PlaybackState stored (R124), then the directive issued. -/
def playedState (i d : Byte) (s : State) : State :=
  (s.setPlayback (dutyOf i) (durationOf d)).issue (startOf s.cfg i d)

theorem exec_play_eq_playedState (i d : Byte) (s : State) :
    exec (.play i d) s = .next (playedState i d s) := exec_play i d s

theorem modeOf_durationOf_zero (cfg : Config) {d : Byte} (endless : d = 0) :
    modeOf cfg (durationOf d) = .loop :=
  if_pos ((durationOf_eq_zero_iff d).2 endless)

theorem modeOf_durationOf_of_ne_zero (cfg : Config) {d : Byte} (finite : d ≠ 0) :
    modeOf cfg (durationOf d) = .fixedCycles (BitVec.ofNat 16 (cyclesOf cfg (durationOf d))) :=
  if_neg (mt (durationOf_eq_zero_iff d).1 finite)

/-- The count of a PLAY, written out with the numbers of the pseudocode of R122. -/
theorem toNat_ofNat_cyclesOf_durationOf (cfg : Config) (d : Byte) :
    (BitVec.ofNat 16 (cyclesOf cfg (durationOf d))).toNat =
      max 1 (min ((d.toNat * 50 * 1000 + (cfg.pwmPeriodTicks + 1) - 1) / (cfg.pwmPeriodTicks + 1))
        cfg.maxRepeat) := by
  rw [toNat_ofNat_cyclesOf, durationOf_eq_mul]
  rfl

/-- Settles O10: the numbers of `startOf` are those of the pseudocode, and none is cut by its width. -/
theorem playCompletes : Obligations.PlayCompletes := by
  intro i d s
  have duration : (BitVec.ofNat 16 (durationOf d)).toNat = if d = 0 then 0 else d.toNat * 50 :=
    (toNat_ofNat_durationOf d).trans (durationOf_eq_mul d).symm
  exact ⟨playedState i d s, _, _, exec_play_eq_playedState i d s, toNat_ofNat_dutyOf i, duration, rfl,
    toNat_ofNat_dutyTicks s.cfg (dutyOf_le i), modeOf_durationOf_zero s.cfg,
    fun finite => ⟨_, modeOf_durationOf_of_ne_zero s.cfg finite,
      toNat_ofNat_cyclesOf_durationOf s.cfg d⟩,
    issue_driver_of_accepted (s := s.setPlayback (dutyOf i) (durationOf d)) _,
    rfl, rfl, rfl, rfl, rfl, rfl, rfl⟩

/-- Settles O12: what a PLAY issues and stores depends on its operands and the configuration alone (R132), and a PLAY
leaves the configuration. -/
theorem repeatedPlayIsIdempotent : Obligations.RepeatedPlayIsIdempotent := by
  intro i d s t u e first second
  cases (exec_play_eq_playedState i d s).symm.trans first
  cases (exec_play_eq_playedState i d _).symm.trans second
  exact ⟨rfl, rfl, rfl, rfl⟩

/-! ## UNKNOWN -/

/-- Settles O11: the candidate is valid and its command in the range of UNKNOWN, so judging emits it and raises the
diagnostic. -/
theorem unknownCompletes : Obligations.UnknownCompletes := by
  refine ⟨fun c i d s => exec_unknown c i d s, fun s full byte command sum => ?_⟩
  have valid : validate (heldFrame 0xAA s) = .valid := (validate_eq_valid_iff_sum rfl).2 sum
  exact ⟨_, (StepCase.completed 0xAA _ byte full (.unknown valid command)).step_eq, rfl,
    set_cursor_of_full 0xAA full, storedState_cursor_of_full full, rfl, rfl, rfl⟩

/-! ## Which steps issue a directive -/

/-- Where no directive stands yet, judging issues one exactly for a valid STOP or PLAY. -/
theorem JudgeCase.directive_isSome_iff {f : CommandFrame} {s t : State} (h : JudgeCase f s t)
    (silent : s.out.directive = none) :
    t.out.directive.isSome ↔ validate f = .valid ∧ (f.command = cmdStop ∨ f.command = cmdPlay) := by
  cases h with
  | badTail verdict | checksumMismatch verdict => simp [silent, verdict]
  | stop valid command | play valid command => simp [valid, command]
  | unknown valid command =>
    have notStop : f.command ≠ cmdStop := fun h => absurd (h ▸ command) (by decide)
    have notPlay : f.command ≠ cmdPlay := fun h => absurd (h ▸ command) (by decide)
    simp [silent, notStop, notPlay]

/-- Settles O29: a step that issues a directive judges a candidate. -/
theorem directiveExactlyForStopAndPlay : Obligations.DirectiveExactlyForStopAndPlay := by
  intro s t h
  constructor
  · intro issues
    cases step_eq_next_iff.1 h with
    | held | dropped | stored => cases issues
    | completed b t byte full judged =>
      exact ⟨full, b, byte, (judged.directive_isSome_iff rfl).1 issues⟩
  · rintro ⟨full, b, byte, selected⟩
    obtain ⟨u, stepped, judged, -⟩ := exists_judged_of_full full byte
    cases stepped.symm.trans h
    exact (judged.directive_isSome_iff rfl).2 selected

end Sys2Proof.Machine
end

section
/-! The PWM driver and the ports (spec/60_exceptions.md): what `pwm_err` can change in a step, what a step does to the
driver, and the codes on the output ports. -/

namespace Sys2Proof.Machine

/-! ## The driver in a step -/

@[simp] theorem driverBoundary_fixedCycles (e : Bool) (t count : U16) :
    driverBoundary e (.running t (.fixedCycles count)) =
      if e then .idle else .running t (.fixedCycles count) := rfl

/-- A directive that judging issues and the driver accepts raises no diagnostic, and the driver takes it (R167). -/
theorem JudgeCase.of_accepted {f : CommandFrame} {s t : State} {d : PlaybackDirective}
    (h : JudgeCase f s t) (silent : s.out.directive = none) (accepted : s.pwmErr = false)
    (issued : t.out.directive = some d) :
    t.out.diagnostic = s.out.diagnostic ∧ t.driver = driverAccept d := by
  cases h with
  | badTail | checksumMismatch | unknown => cases silent.symm.trans issued
  | stop | play =>
    obtain ⟨diagnostic, driver, -⟩ := issue_driver_of_accepted _ accepted
    cases issued
    exact ⟨diagnostic, driver⟩

/-- Only issuing a directive moves the driver. -/
theorem JudgeCase.driver_of_silent {f : CommandFrame} {s t : State} (h : JudgeCase f s t)
    (silent : t.out.directive = none) : t.driver = s.driver := by
  cases h with
  | badTail | checksumMismatch | unknown => rfl
  | stop | play => cases silent

/-- A step that issues a directive without `pwm_err` raises no diagnostic, and the driver takes the directive. -/
theorem step_of_accepted {s t : State} {d : PlaybackDirective} (h : step s = .next t)
    (accepted : s.currentInput.pwmErr = false) (issued : t.out.directive = some d) :
    t.out.diagnostic = none ∧ t.driver = driverAccept d := by
  cases step_eq_next_iff.1 h with
  | held | dropped | stored => cases issued
  | completed b t byte full judged => exact judged.of_accepted rfl accepted issued

/-- A step that issues no directive moves the driver at its boundary alone (R168). -/
theorem step_driver_of_silent {s t : State} (h : step s = .next t) (silent : t.out.directive = none) :
    t.driver = driverBoundary s.currentInput.cyclesExhausted s.driver := by
  cases step_eq_next_iff.1 h with
  | held | dropped | stored => rfl
  | completed b t byte full judged => exact judged.driver_of_silent silent

/-- Settles O48: `driverAccept`, read off for the two directives. -/
theorem driverTakesTheDirective : Obligations.DriverTakesTheDirective := fun _ _ h accepted =>
  ⟨fun _ _ issued => (step_of_accepted h accepted issued).2,
    fun issued => (step_of_accepted h accepted issued).2⟩

/-- Settles O49: `driverBoundary`, read off for the three kinds of driver state. -/
theorem driverEndsOnlyFiniteWaveforms : Obligations.DriverEndsOnlyFiniteWaveforms := by
  intro s t h silent
  rw [step_driver_of_silent h silent]
  refine ⟨fun ticks endless => ?_, fun ticks count finite => ?_, fun idle => ?_⟩
  · rw [endless, driverBoundary_loop]
  · rw [finite, driverBoundary_fixedCycles]
  · rw [idle, driverBoundary_idle]

/-! ## A rejected directive (R156)

Judging and a whole step commute with `State.rejected`: where one answers `t` without `pwm_err`, it answers `t.rejected`
with it. -/

/-- The same state with the port `pwm_err` at 1. -/
def State.withPwmErr (s : State) : State := { s with pwmErr := true }

/-- What the state `t` after a step becomes when the driver answers that step with `pwm_err`: a directive issued in the
step is issued to a driver that rejects it. -/
def State.rejected (t : State) : State :=
  match t.out.directive with
  | none => t.withPwmErr
  | some d => t.withPwmErr.issue d

theorem State.rejected_of_silent {t : State} (silent : t.out.directive = none) :
    t.rejected = t.withPwmErr := by
  simp [State.rejected, silent]

theorem State.rejected_of_issued {t : State} {d : PlaybackDirective}
    (issued : t.out.directive = some d) : t.rejected = t.withPwmErr.issue d := by
  simp [State.rejected, issued]

/-- Rejecting a directive afterwards is issuing it to a driver that rejects it. -/
theorem State.rejected_issue (s : State) (d : PlaybackDirective) (accepted : s.pwmErr = false) :
    (s.issue d).rejected = s.withPwmErr.issue d := by
  rw [State.rejected_of_issued (d := d) rfl, State.issue_accepted d accepted,
    State.issue_rejected d rfl, State.issue_rejected d rfl]
  rfl

/-- A diagnostic of the core's own stands whatever the driver answers. -/
theorem State.rejected_raiseDiag (s : State) (d : Diagnostic) (silent : s.out.directive = none) :
    (s.raiseDiag d).rejected = s.withPwmErr.raiseDiag d :=
  State.rejected_of_silent silent

/-- A rejection changes no state of the core (decision D11). -/
theorem State.rejected_coreKept (t : State) : CoreKept t t.rejected := by
  cases directive : t.out.directive with
  | none => rw [State.rejected_of_silent directive]; exact ⟨rfl, rfl, rfl, rfl, rfl⟩
  | some d => rw [State.rejected_of_issued directive]; exact ⟨rfl, rfl, rfl, rfl, rfl⟩

/-- A rejection changes no output but the diagnostic (decision D12). -/
theorem State.rejected_ports (t : State) :
    t.rejected.inputs = t.inputs ∧ t.rejected.out.frame = t.out.frame ∧
      t.rejected.out.directive = t.out.directive ∧ t.rejected.out.echo = t.out.echo := by
  cases directive : t.out.directive with
  | none => rw [State.rejected_of_silent directive]; exact ⟨rfl, rfl, directive, rfl⟩
  | some d => rw [State.rejected_of_issued directive]; exact ⟨rfl, rfl, rfl, rfl⟩

theorem JudgeCase.rejected {f : CommandFrame} {s t : State} (h : JudgeCase f s t)
    (silent : s.out.directive = none) (accepted : s.pwmErr = false) :
    JudgeCase f s.withPwmErr t.rejected := by
  cases h with
  | badTail verdict => rw [s.rejected_raiseDiag _ silent]; exact .badTail verdict
  | checksumMismatch verdict => rw [s.rejected_raiseDiag _ silent]; exact .checksumMismatch verdict
  | stop valid command => rw [(s.emitFrame f).rejected_issue _ accepted]; exact .stop valid command
  | play valid command =>
    rw [((s.emitFrame f).setPlayback _ _).rejected_issue _ accepted]
    exact .play valid command
  | unknown valid command =>
    rw [(s.emitFrame f).rejected_raiseDiag _ silent]
    exact .unknown valid command

theorem StepCase.rejected {s t : State} {b : Option Byte} {e : Bool} {rest : List StepInput}
    (h : StepCase { s with inputs := ⟨b, false, e⟩ :: rest } t) :
    StepCase { s with inputs := ⟨b, true, e⟩ :: rest } t.rejected := by
  cases h with
  | held noByte => exact .held noByte
  | dropped b byte hunting noise => exact .dropped b byte hunting noise
  | stored b byte accepts => exact .stored b byte accepts
  | completed b t byte full judged => exact .completed b _ byte full (judged.rejected rfl rfl)

/-- Settles O13: the step with `pwm_err` answers the rejection of what the step without it answers. -/
theorem directiveFailureChangesNoCoreState : Obligations.DirectiveFailureChangesNoCoreState := by
  intro s b e rest
  obtain ⟨t, stepped⟩ := exists_stepCase { s with inputs := ⟨b, false, e⟩ :: rest }
  have core := t.rejected_coreKept
  obtain ⟨inputs, frame, directive, echo⟩ := t.rejected_ports
  refine ⟨t, t.rejected, stepped.step_eq, stepped.rejected.step_eq, core.buf, core.cursor,
    core.dutyPercent, core.durationMs, core.cfg, inputs, frame, directive, echo,
    fun d issued => ?_, fun silent => ?_⟩
  · have noDiagnostic := (step_of_accepted stepped.step_eq rfl issued).1
    rw [State.rejected_of_issued issued]
    exact ⟨noDiagnostic, rfl⟩
  · rw [State.rejected_of_silent silent]
    exact ⟨rfl, rfl, rfl⟩

/-! ## The ports (R150, spec/10_state.md R32) -/

section Ports

variable {s : State}

theorem portDiagCode_of_none (h : s.out.diagnostic = none) : portDiagCode s = 0 := by
  simp [portDiagCode, h]

theorem portDiagCode_of_some {d : Diagnostic} (h : s.out.diagnostic = some d) :
    portDiagCode s = d.code := by
  simp [portDiagCode, h]

theorem portDirKind_of_none (h : s.out.directive = none) : portDirKind s = 0 := by
  simp [portDirKind, h]

theorem portDirKind_of_stop (h : s.out.directive = some .stop) : portDirKind s = 2 := by
  simp [portDirKind, h]

theorem ports_of_start {t : U16} {m : PlayMode} (h : s.out.directive = some (.start t m)) :
    portDirKind s = 1 ∧ portDirDutyTicks s = some t := by
  simp [portDirKind, portDirDutyTicks, h]

theorem ports_of_loop {t : U16} (h : s.out.directive = some (.start t .loop)) :
    portDirLoop s = some true ∧ portDirCycleCount s = none := by
  simp [portDirLoop, portDirCycleCount, h]

theorem ports_of_fixedCycles {t n : U16} (h : s.out.directive = some (.start t (.fixedCycles n))) :
    portDirLoop s = some false ∧ portDirCycleCount s = some n := by
  simp [portDirLoop, portDirCycleCount, h]

end Ports

/-- Settles O50, one port after the other. -/
theorem portCodes : Obligations.PortCodes := by
  intro s
  refine ⟨portDiagCode_of_none, fun _ => portDiagCode_of_some, fun _ => portDiagCode_of_some,
    fun _ => portDiagCode_of_some, fun _ => portDiagCode_of_some, portDirKind_of_none,
    fun t m start => ?_, portDirKind_of_stop⟩
  obtain ⟨kind, ticks⟩ := ports_of_start start
  refine ⟨kind, ticks, ?_, ?_⟩
  · rintro rfl
    exact ports_of_loop start
  · rintro n rfl
    exact ports_of_fixedCycles start

end Sys2Proof.Machine
end

section
/-! The `rst` port and the five-byte flush (spec/70_reset_and_hazards.md R181, R186). -/

namespace Sys2Proof.Machine

/-! ## The `rst` port -/

/-- Settles O33: the values of the reset state, as O32 gives them; the other fields are read off. -/
theorem rstRestoresResetState : Obligations.RstRestoresResetState := by
  intro s
  obtain ⟨-, cursor, duty, duration, -⟩ := resetState.1 s.cfg
  exact ⟨cursor, duty, duration, rfl, rfl, rfl⟩

/-! ## The five-byte flush -/

/-- The first step of a run over bytes that are offered: it takes the first of them. -/
theorem Offers.exists_step {b : Byte} {bs : List Byte} {s u : State} (h : Offers (b :: bs) s)
    (runs : Runs (b :: bs).length s u) :
    ∃ t, step s = .next t ∧ s.currentInput.inByte = some b ∧ Offers bs t ∧
      Runs bs.length t u := by
  obtain ⟨byte, later⟩ := (offers_cons_iff b bs s).1 h
  obtain ⟨t, stepped, rest⟩ := runs.exists_step
  obtain ⟨-, taken, -⟩ := stepKeepsConfiguration s t stepped
  exact ⟨t, stepped, byte, by rwa [Offers, taken], rest⟩

/-- A byte other than 0x55 leaves the cursor at 0, or moves a candidate in progress one byte on
(spec/40_frame_decoder.md R91, R93, R94). -/
theorem step_cursor_of_noise {s t : State} {b : Byte} (h : step s = .next t)
    (byte : s.currentInput.inByte = some b) (noise : b ≠ syncByte) :
    t.cursor = 0 ∨ (s.cursor ≠ 0 ∧ t.cursor.val = s.cursor.val + 1) := by
  obtain ⟨noByte | ⟨-, -, hunting, -⟩, kept⟩ | ⟨⟨c, taken, sync, -⟩, moved⟩ | ⟨-, -, wraps⟩ :=
    cursorMoves s t h
  · cases byte.symm.trans noByte
  · exact .inl (kept.trans hunting)
  · cases byte.symm.trans taken
    exact .inr ⟨fun hunting => noise (sync hunting), moved⟩
  · exact .inl wraps

/-- Bytes other than 0x55 take a decoder to cursor 0 if it is hunting or they are enough to complete its candidate: a
candidate moves on with every byte, and hunting never ends. -/
theorem cursor_of_noise_run {bs : List Byte} {s t : State} (noise : Noise bs) (offers : Offers bs s)
    (runs : Runs bs.length s t) (enough : s.cursor = 0 ∨ 6 ≤ s.cursor.val + bs.length) :
    t.cursor = 0 := by
  induction bs generalizing s with
  | nil =>
    cases runs
    exact enough.resolve_right (Nat.not_le_of_lt t.cursor.isLt)
  | cons b bs ih =>
    obtain ⟨noSync, noise⟩ := List.forall_mem_cons.1 noise
    obtain ⟨u, stepped, byte, later, rest⟩ := offers.exists_step runs
    refine ih noise later rest ?_
    obtain hunting | ⟨inside, moved⟩ := step_cursor_of_noise stepped byte noSync
    · exact .inl hunting
    · have := enough.resolve_left inside
      rw [List.length_cons] at this
      exact .inr (by omega)

/-- A step whose byte is not the tail emits no frame, issues no directive and keeps PlaybackState: a candidate it
completes is not valid (spec/41_checksum_validator.md R112). -/
theorem step_of_not_tail {s t : State} {b : Byte} (h : step s = .next t)
    (byte : s.currentInput.inByte = some b) (noTail : b ≠ tailByte) :
    (t.out.frame = none ∧ t.out.directive = none) ∧
      t.dutyPercent = s.dutyPercent ∧ t.durationMs = s.durationMs := by
  cases step_eq_next_iff.1 h with
  | held | dropped | stored => exact ⟨⟨rfl, rfl⟩, rfl, rfl⟩
  | completed c t taken full judged =>
    cases byte.symm.trans taken
    have invalid : validate (heldFrame b s) ≠ .valid := fun valid =>
      noTail ((validate_eq_valid_iff _).1 valid).1
    obtain ⟨frame, directive, duty, duration⟩ := judged.of_not_valid invalid
    exact ⟨⟨frame, directive⟩, duty, duration⟩

/-- No command is applied while none of the bytes taken is the tail. -/
theorem run_of_no_tail {bs : List Byte} {s t : State} (noTail : ∀ b ∈ bs, b ≠ tailByte)
    (offers : Offers bs s) (runs : Runs bs.length s t) :
    (∀ o ∈ outputsOf bs.length s, o.frame = none ∧ o.directive = none) ∧
      t.dutyPercent = s.dutyPercent ∧ t.durationMs = s.durationMs := by
  induction bs generalizing s with
  | nil => cases runs; simp [outputsOf]
  | cons b bs ih =>
    obtain ⟨first, others⟩ := List.forall_mem_cons.1 noTail
    obtain ⟨u, stepped, byte, later, rest⟩ := offers.exists_step runs
    obtain ⟨silent, duty, duration⟩ := step_of_not_tail stepped byte first
    obtain ⟨silentRest, dutyRest, durationRest⟩ := ih others later rest
    refine ⟨?_, dutyRest.trans duty, durationRest.trans duration⟩
    rw [List.length_cons, outputsOf_succ stepped, List.forall_mem_cons]
    exact ⟨silent, silentRest⟩

/-- Settles O46: a candidate in progress holds at least one byte, so five more complete it. -/
theorem fiveByteFlush : Obligations.FiveByteFlush := by
  intro s bs five noise offers
  obtain ⟨t, runs⟩ := exists_runs bs.length s
  have enough : s.cursor = 0 ∨ 6 ≤ s.cursor.val + bs.length := by
    rw [five, ← Fin.val_eq_zero_iff]
    omega
  have flushed : t.cursor = 0 := cursor_of_noise_run noise offers runs enough
  rw [← five]
  exact ⟨t, runs, flushed, fun noTail => run_of_no_tail noTail offers runs⟩

end Sys2Proof.Machine
end
